-- ==== Sys2Proof/Word.lean ====
section
/-! DEFINITION. The word types of the CORE (00_scope.md R10: bit 0 is the least significant bit; a signed value is two's complement). -/

namespace Sys2Proof

/-- A byte is 8 bits (R10). -/
abbrev Byte := BitVec 8

/-- An axis value or a raw pair: 16 bits, read as two's complement where a rule says signed (R10, R21). -/
abbrev Half := BitVec 16

/-- An op word: exactly 32 bits (R82). -/
abbrev OpWord := BitVec 32

/-- A 7-bit bus device address (R50, R83). -/
abbrev DevAddr := BitVec 7

/-- An 8-bit device register address (R51, R83). -/
abbrev RegAddr := BitVec 8

end Sys2Proof
end

