-- ==== Sys2Proof/Config.lean ====
section
/-! DEFINITION. What an implementation fixes (00_scope.md R9), the enumerations the parameters range over, the shape of
an answer of the bus transport and of a choice of the outside world, and the free values. -/

namespace Sys2Proof

/-- The status of a transport call: `OK` or `FAIL`, the only two values (R12). -/
inductive Status where
  | ok
  | fail
  deriving DecidableEq, Repr, Inhabited

/-- Operating mode `CFG.MODE` (R31). -/
inductive Mode where
  | normal
  | highResolution
  deriving DecidableEq, Repr, Inhabited

/-- Full-scale range `CFG.FSR`: ±2g or ±4g (R31). -/
inductive Fsr where
  | g2
  | g4
  deriving DecidableEq, Repr, Inhabited

/-- Readiness strategy, selected at start-up (R32). -/
inductive Strategy where
  | polled
  | eventDriven
  deriving DecidableEq, Repr, Inhabited

/-- Payload content and byte order (R33). The mixed combinations have no constructor: they are refused by R33. -/
inductive Variant where
  | reference
  | historical
  deriving DecidableEq, Repr, Inhabited

/-- The OPEN parameter `CFG_ON_READ_FAIL` (R133, decision D9). -/
inductive OnReadFail where
  | write
  | skip
  deriving DecidableEq, Repr, Inhabited

/-- The OPEN parameter `CTRL1_TARGET(MODE)` as a table (R56, decision D7). -/
structure Ctrl1Table where
  normal : Byte
  highResolution : Byte
  deriving DecidableEq, Repr, Inhabited

/-- The OPEN parameter `CTRL4_TARGET(MODE, FSR)` as a table (R56, decision D7). -/
structure Ctrl4Table where
  normal2g : Byte
  normal4g : Byte
  highResolution2g : Byte
  highResolution4g : Byte
  deriving DecidableEq, Repr, Inhabited

/-- The parameters the platform chooses before the CORE's reset (R9, R233). -/
structure Params where
  mode : Mode
  fsr : Fsr
  strategy : Strategy
  variant : Variant
  ctrl1Target : Ctrl1Table
  ctrl4Target : Ctrl4Table
  onReadFail : OnReadFail
  deriving DecidableEq, Repr, Inhabited

/-- One answer of the bus transport (R60 to R62, R64). Each kind of call reads the parts it returns: a single read
`status` and `value`, a single write `status`, a burst `status` and `bytes` (at most `count` of them, R64). -/
structure Answer where
  status : Status
  value : Byte
  bytes : List Byte
  deriving DecidableEq, Repr, Inhabited

/-- Who acts next: the sequencer `SEQ`, the handler `HND` (R6), the event source raising its trigger (R189), or the
platform resetting the CORE with parameters of its choice (R230, R233). -/
inductive Move where
  | sequencer
  | handler
  | trigger
  | reset (p : Params)
  deriving DecidableEq, Repr, Inhabited

/-! ### The literals of R9, each with the source's value (decision D33; log 15) -/

/-- `DEV_ADDR` (R9, R50). -/
def Config.devAddr : DevAddr := 0x18#7
/-- `REG_CTRL1` (R9, R53). -/
def Config.regCtrl1 : RegAddr := 0x20#8
/-- `REG_CTRL4` (R9, R53). -/
def Config.regCtrl4 : RegAddr := 0x23#8
/-- `REG_STATUS` (R9, R53). -/
def Config.regStatus : RegAddr := 0x27#8
/-- `REG_OUT_BASE` (R9, R53). -/
def Config.regOutBase : RegAddr := 0x28#8
/-- `BURST_LEN`, the size of `RAW` (R9, R88). -/
def Config.burstLen : Byte := 6#8
/-- `ND_MASK`, the new-data bit of the status value (R9, R58). -/
def Config.ndMask : Byte := 0x08#8
/-- `FRAME_LEN` (R9, R98). -/
def Config.frameLen : Nat := 8
/-- `HEADER` (R9, R98). -/
def Config.header : Byte := 0xA0#8
/-- `FOOTER` (R9, R98). -/
def Config.footer : Byte := 0xC0#8
/-- `BURST_ADDR_OR`, OR-ed into the start address of a burst (R9, R62). -/
def Config.burstAddrOr : RegAddr := 0x00#8
/-- `ODR_HZ`: timing of the device, read by no rule (R9, R250). -/
def Config.odrHz : Nat := 100
/-- `SETTLE_MS`: timing, read by no rule (R9, R131, R250). -/
def Config.settleMs : Nat := 5
/-- `POLL_PERIOD_MS`: timing, an example of the source, read by no rule (R9, R182, R250). -/
def Config.pollPeriodMs : Nat := 100
/-- The default of the parameter `VARIANT` (R9, R33). -/
def Config.defaultVariant : Variant := .reference

/-! ### Free values: no body, so no proof can see them (log 2, log 3, log 4) -/

/-- The start-up and OPEN parameters of this machine (R9, D7, D9); the reset state takes `VARIANT` at its default. -/
opaque Config.openParams : Params

/-- The oracle's answer where State holds no scripted one (R64, D28). -/
opaque Config.freeAnswer : Nat → Answer

/-- Who moves next where State holds no scripted move (R6, R189, R212). -/
opaque Config.freeMove : Nat → Move

end Sys2Proof
end

