-- ==== Sys2Proof/Syntax.lean ====
section
/-! DEFINITION. The ten operations of the CORE (30_encoding.md R80, R81), one constructor per row of spec/opcode_table.json. -/

namespace Sys2Proof

/-- An operation with its operands (R81, R83, R84). Format N operations name no operand. -/
inductive Instr where
  /-- `RDREG dev, reg` (R111). -/
  | rdreg (dev : DevAddr) (reg : RegAddr)
  /-- `WRREG dev, reg, value` (R112). -/
  | wrreg (dev : DevAddr) (reg : RegAddr) (value : Byte)
  /-- `RDBURST dev, start, count` (R113). -/
  | rdburst (dev : DevAddr) (start : RegAddr) (count : Byte)
  /-- `SETTLE` (R131). -/
  | settle
  /-- `WAITRDY` (R181). -/
  | waitrdy
  /-- `DECODE` (R136). -/
  | decode
  /-- `SCALE` (R139). -/
  | scale
  /-- `EMIT` (R171). -/
  | emit
  /-- `RDYCLR` (R186). -/
  | rdyclr
  /-- `EVTACK` (R188). -/
  | evtack
  deriving DecidableEq, Repr, Inhabited

/-- Why an op word is refused (R88). -/
inductive DecodeError where
  /-- `OP` is 0x0 or 0xB to 0xF. -/
  | reservedOp
  /-- A format B word with `Z5` not zero. -/
  | nonzeroZ5
  /-- `RDREG` with `ARG` not zero. -/
  | nonzeroArg
  /-- A format N word with `Z28` not zero. -/
  | nonzeroZ28
  /-- `RDBURST` with a count of 0 or above `BURST_LEN`. -/
  | burstCount
  deriving DecidableEq, Repr

end Sys2Proof
end

