-- ==== Sys2Proof/WellFormed.lean ====
section
/-! DEFINITION. Well-formed operations (30_encoding.md R83, R88). -/

namespace Sys2Proof

/-- A burst count is at least 1 and at most `BURST_LEN`, the size of `RAW` (R88). -/
def burstCountOk (count : Byte) : Bool :=
  decide (1 ≤ count.toNat) && decide (count.toNat ≤ Config.burstLen.toNat)

/-- Every other operand is as wide as its field, so only a burst's count can be ill-formed (R83, R88). -/
def Instr.wellFormed : Instr → Bool
  | .rdreg _ _ => true
  | .wrreg _ _ _ => true
  | .rdburst _ _ count => burstCountOk count
  | .settle => true
  | .waitrdy => true
  | .decode => true
  | .scale => true
  | .emit => true
  | .rdyclr => true
  | .evtack => true

end Sys2Proof
end

