-- ==== Sys2Proof/Decode.lean ====
section
/-! DEFINITION. The op word decoder and encoder (30_encoding.md R82 to R88). Decoding is the same in every mode, strategy
and variant (R82), total, and refuses by name. -/

namespace Sys2Proof

/-! ### The fields of an op word (R83, R84) -/

/-- `OP`, bits 31:28. -/
def OpWord.op (w : OpWord) : BitVec 4 := w.extractLsb' 28 4
/-- `Z5`, bits 27:23. -/
def OpWord.z5 (w : OpWord) : BitVec 5 := w.extractLsb' 23 5
/-- `DEV`, bits 22:16. -/
def OpWord.dev (w : OpWord) : DevAddr := w.extractLsb' 16 7
/-- `REG`, bits 15:8. -/
def OpWord.reg (w : OpWord) : RegAddr := w.extractLsb' 8 8
/-- `ARG`, bits 7:0. -/
def OpWord.arg (w : OpWord) : Byte := w.extractLsb' 0 8
/-- `Z28`, bits 27:0. -/
def OpWord.z28 (w : OpWord) : BitVec 28 := w.extractLsb' 0 28

/-- A format N word: the must-be-zero field is checked, no operand is read (R84, R88). -/
def decodeN (i : Instr) (w : OpWord) : Except DecodeError Instr :=
  if w.z28 = 0#28 then .ok i else .error .nonzeroZ28

/-- `RDREG`: `Z5` and `ARG` are zero (R83, R88). Where neither is, the refusal is named after `Z5` (log 24). -/
def decodeRdreg (w : OpWord) : Except DecodeError Instr :=
  if w.z5 = 0#5 then
    if w.arg = 0#8 then .ok (.rdreg w.dev w.reg) else .error .nonzeroArg
  else .error .nonzeroZ5

/-- `WRREG`: `ARG` is the value (R83). -/
def decodeWrreg (w : OpWord) : Except DecodeError Instr :=
  if w.z5 = 0#5 then .ok (.wrreg w.dev w.reg w.arg) else .error .nonzeroZ5

/-- `RDBURST`: `ARG` is the count, 1 to `BURST_LEN` (R83, R88). -/
def decodeRdburst (w : OpWord) : Except DecodeError Instr :=
  if w.z5 = 0#5 then
    if burstCountOk w.arg then .ok (.rdburst w.dev w.reg w.arg) else .error .burstCount
  else .error .nonzeroZ5

/-- The operation an op word stands for, or why it is refused (R81, R86, R88). -/
def decode (w : OpWord) : Except DecodeError Instr :=
  if w.op = 0x1#4 then decodeRdreg w
  else if w.op = 0x2#4 then decodeWrreg w
  else if w.op = 0x3#4 then decodeRdburst w
  else if w.op = 0x4#4 then decodeN .settle w
  else if w.op = 0x5#4 then decodeN .waitrdy w
  else if w.op = 0x6#4 then decodeN .decode w
  else if w.op = 0x7#4 then decodeN .scale w
  else if w.op = 0x8#4 then decodeN .emit w
  else if w.op = 0x9#4 then decodeN .rdyclr w
  else if w.op = 0xA#4 then decodeN .evtack w
  else .error .reservedOp

/-- A format B word from its fields: `OP` from bit 28, `Z5` zero, `DEV` from bit 16, `REG` from bit 8, `ARG` from bit 0 (R83). -/
def encodeB (op : BitVec 4) (dev : DevAddr) (reg : RegAddr) (arg : Byte) : OpWord :=
  op.setWidth 32 <<< 28 ||| dev.setWidth 32 <<< 16 ||| reg.setWidth 32 <<< 8 ||| arg.setWidth 32

/-- A format N word from its operation code: `OP` from bit 28, `Z28` zero (R84). -/
def encodeN (op : BitVec 4) : OpWord := op.setWidth 32 <<< 28

/-- The op word of an operation (R81, R83, R84). -/
def encode : Instr → OpWord
  | .rdreg dev reg => encodeB 0x1#4 dev reg 0#8
  | .wrreg dev reg value => encodeB 0x2#4 dev reg value
  | .rdburst dev start count => encodeB 0x3#4 dev start count
  | .settle => encodeN 0x4#4
  | .waitrdy => encodeN 0x5#4
  | .decode => encodeN 0x6#4
  | .scale => encodeN 0x7#4
  | .emit => encodeN 0x8#4
  | .rdyclr => encodeN 0x9#4
  | .evtack => encodeN 0xA#4

/-- The op word whose low `nbits` bits are those of `w`, the bits above them zero. An op word is one 32-bit word that no
memory stores (R82), so there is no byte order to lay out (log 17). -/
def tableWord (nbits w : Nat) : OpWord := BitVec.ofNat 32 (w % 2 ^ nbits)

/-- What the decoder reads from an op word numbered as spec/opcode_table.json numbers it; every operation has exactly one
32-bit word (R82), so more bits than that are no op word. -/
def decodeTableWord (nbits w : Nat) : Option Instr :=
  if nbits ≤ 32 then
    match decode (tableWord nbits w) with
    | .ok i => some i
    | .error _ => none
  else none

end Sys2Proof
end

