-- ==== Sys2Proof/Machine/State.lean ====
section
/-! DEFINITION. The state of the CORE (10_state.md R20, R41), the reasons a step can stop, and the state after reset. -/

namespace Sys2Proof.Machine

/-- The content of a data register: a value, or the spec's `invalid`, which is no value (R22). -/
inductive Datum (w : Nat) where
  /-- Nothing has written the register since reset, or a failed transaction was to have written it (R22). -/
  | invalid
  /-- The register holds this value. -/
  | val (v : BitVec w)
  deriving DecidableEq, Repr

/-- The twelve states of the sequencer (R25, R96). Codes 0xC to 0xF have no state (R157; log 13). -/
inductive SeqState where
  | settle
  | cfg1Rd
  | cfg1Wr
  | cfg4Rd
  | cfg4Wr
  | idle
  | status
  | burst
  | decode
  | scale
  | emit
  | done
  deriving DecidableEq, Repr

/-- The status of one transaction of the initialization protocol (R34). -/
inductive InitCode where
  /-- Not issued since reset. -/
  | notIssued
  | ok
  | fail
  deriving DecidableEq, Repr

/-- `INITSTAT`: the statuses of the four transactions of the initialization protocol (R34). -/
structure InitStat where
  c1r : InitCode
  c1w : InitCode
  c4r : InitCode
  c4w : InitCode
  deriving DecidableEq, Repr

/-- The three conditions of R200. -/
inductive Condition where
  | transportFailure
  | noNewData
  | configurationMismatch
  deriving DecidableEq, Repr

/-- One entry of the observation (R8): a bus transaction with the answer it got, or a frame written to the sink. -/
inductive Event where
  /-- A single-register read; the value is absent with `FAIL` (R60). -/
  | read1 (dev : DevAddr) (reg : RegAddr) (status : Status) (value : Option Byte)
  /-- A single-register write (R61). -/
  | write1 (dev : DevAddr) (reg : RegAddr) (value : Byte) (status : Status)
  /-- A burst read with the bytes the transport delivered (R62). -/
  | readN (dev : DevAddr) (start : RegAddr) (count : Byte) (status : Status) (bytes : List Byte)
  /-- One call of the byte sink (R173). -/
  | frame (bytes : List Byte)
  deriving DecidableEq, Repr

/-- The data registers an operation or the sequencer reads (R22, R23). -/
inductive DataReg where
  | v
  | raw
  | ax
  deriving DecidableEq, Repr

/-- Everything the spec gives the machine (R20), the parameters it takes (R9), and six fields of the model's own. -/
structure State where
  /-- `ST` (R25). -/
  st : SeqState
  /-- `V` (R21). -/
  v : Datum 8
  /-- `RAW[0..5]`: X low, X high, Y low, Y high, Z low, Z high (R21). -/
  raw : Vector (Datum 8) 6
  /-- `AX[0..2]`: X, Y, Z (R21). -/
  ax : Vector (Datum 16) 3
  /-- `FRAME[0..7]` (R21, R98). -/
  frame : Vector (Datum 8) 8
  /-- `TS` (R27). -/
  ts : Status
  /-- `ND` (R28). -/
  nd : Bool
  /-- `RDY`, the Readiness Flag (R29). -/
  rdy : Bool
  /-- `SETTLED` (R30). -/
  settled : Bool
  /-- `CFG.MODE` (R31). -/
  cfgMode : Mode
  /-- `CFG.FSR` (R31). -/
  cfgFsr : Fsr
  /-- `STRATEGY` (R32). -/
  strategy : Strategy
  /-- `VARIANT` (R33). -/
  variant : Variant
  /-- The parameter `CTRL1_TARGET` (R56), constant in a run (R35; log 4). -/
  ctrl1Target : Ctrl1Table
  /-- The parameter `CTRL4_TARGET` (R56), constant in a run (R35; log 4). -/
  ctrl4Target : Ctrl4Table
  /-- The parameter `CFG_ON_READ_FAIL` (R133), constant in a run (log 4). -/
  onReadFail : OnReadFail
  /-- `INITSTAT` (R34). -/
  initStat : InitStat
  /-- `EVT_PEND` of the event source (R38). -/
  evtPend : Bool
  /-- The histories of `BUS` and `SINK`, oldest first; no rule reads them (R8, R40). -/
  history : List Event
  /-- MODEL'S OWN: the conditions raised, oldest first; no rule reads them (R11, R200; log 11). -/
  raised : List Condition
  /-- MODEL'S OWN: the operation issued last is a `WAITRDY` that has not completed and stays pending (R181; log 6). -/
  held : Bool
  /-- MODEL'S OWN: an op word put on the op-word lines from outside (direct invocation, R139, R240; log 5). -/
  direct : Option OpWord
  /-- MODEL'S OWN: the transport's next answers, an input (R64; log 2). -/
  answers : List Answer
  /-- MODEL'S OWN: who moves next, an input (R6, R212; log 3). -/
  moves : List Move
  /-- MODEL'S OWN: the index of the next free value (log 2, log 3). -/
  draw : Nat
  deriving DecidableEq, Repr

/-- Why the machine stops with a fault. -/
inductive Fault where
  /-- Raised by `DECODE`, `SCALE`, `EMIT` and by the sequencer's tests of `V`: an `invalid` register was read, which has
  no meaning (R22). SAFE: the spec itself orders the fault, and the wired sequencer never reaches it. -/
  | invalidRead (r : DataReg)
  deriving DecidableEq, Repr

/-- Why an op word or an operation has no step. -/
inductive Refusal where
  /-- Raised by `exec` for an operation without a meaning yet; no arm is left with it. SAFE: the machine stops. -/
  | notModelled (mnemonic : String)
  /-- Raised by `RDREG`, `WRREG`, `RDBURST` with `SETTLED = 0` (R30, R240). SAFE: the spec itself refuses it. -/
  | notSettled
  /-- Raised by `RDBURST` with a count of 0 or above `BURST_LEN` (R88, R113). SAFE: the spec itself refuses it. -/
  | burstCount
  /-- Raised by `EVTACK` when it is not enabled: Polled strategy, or `EVT_PEND = 0` (R188). SAFE: the spec gives no step. -/
  | handlerNotEnabled
  /-- Raised by a step whose op word no row matches (R88). SAFE: the spec itself refuses it. -/
  | illegalOpWord (e : DecodeError)
  deriving DecidableEq, Repr

/-- The outcome of an operation or a step. -/
abbrev Result := Host.Outcome State Fault Refusal

/-- `INITSTAT` = 0x00: no transaction issued since reset (R34). -/
def InitStat.reset : InitStat := ⟨.notIssued, .notIssued, .notIssued, .notIssued⟩

/-- The state after reset with the parameters `p` (R41, R230). The model's own fields are at the values of log 2, 3, 5, 6, 11. -/
def State.resetWith (p : Params) : State where
  st := .settle
  v := .invalid
  raw := #v[.invalid, .invalid, .invalid, .invalid, .invalid, .invalid]
  ax := #v[.invalid, .invalid, .invalid]
  frame := #v[.invalid, .invalid, .invalid, .invalid, .invalid, .invalid, .invalid, .invalid]
  ts := .ok
  nd := false
  rdy := false
  settled := false
  cfgMode := p.mode
  cfgFsr := p.fsr
  strategy := p.strategy
  variant := p.variant
  ctrl1Target := p.ctrl1Target
  ctrl4Target := p.ctrl4Target
  onReadFail := p.onReadFail
  initStat := .reset
  evtPend := false
  history := []
  raised := []
  held := false
  direct := none
  answers := []
  moves := []
  draw := 0

/-- The state after reset: parameters left open, `VARIANT` at its default (R9, R33, R41). -/
def State.reset : State :=
  State.resetWith { Config.openParams with variant := Config.defaultVariant }

end Sys2Proof.Machine
end

