-- ==== Sys2Proof/Machine/Ops.lean ====
section
/-! DEFINITION. The shared operations: the transport calls (20_memory.md R60 to R64), the sink (R173), the event source
(R188, R189), recording a condition (R11, R200, R213), reset (R230), and putting two steps in sequence. -/

namespace Sys2Proof.Machine

/-! ### The outside world's inputs -/

/-- The transport's answer to the next call: the scripted one, else a free value (R64; log 2). -/
def State.answerNow (s : State) : Answer :=
  match s.answers with
  | a :: _ => a
  | [] => Config.freeAnswer s.draw

/-- The state once an answer has been taken (log 2). -/
def State.dropAnswer (s : State) : State := { s with answers := s.answers.tail, draw := s.draw + 1 }

/-- Who moves next: the scripted move, else a free value (R6, R189, R212; log 3). -/
def State.moveNow (s : State) : Move :=
  match s.moves with
  | m :: _ => m
  | [] => Config.freeMove s.draw

/-- The state once a move has been taken (log 3). -/
def State.dropMove (s : State) : State := { s with moves := s.moves.tail, draw := s.draw + 1 }

/-! ### Recording -/

/-- An entry at the end of the observation (R8). -/
def State.record (s : State) (e : Event) : State := { s with history := s.history ++ [e] }

/-- `raise`: TAKING a condition records it and does nothing else: nothing is saved, no mode or mask changes, control goes
to the next state the sequencer's rule names, and there is no return (R11, R200, R204, R213). -/
def State.raise (s : State) (c : Condition) : State := { s with raised := s.raised ++ [c] }

/-! ### The transport calls -/

/-- The bytes a burst of `count` delivers: never more than `count` (R62, R64). -/
def Answer.burstBytes (a : Answer) (count : Byte) : List Byte := a.bytes.take count.toNat

/-- The value a single read delivers, absent with `FAIL` (R60). -/
def Answer.readValue (a : Answer) : Option Byte :=
  match a.status with
  | .ok => some a.value
  | .fail => none

/-- The state after `BusRead1(dev, reg)`: one transaction, in the history with its answer (R60, R8). -/
def State.busRead1 (s : State) (dev : DevAddr) (reg : RegAddr) : State :=
  s.dropAnswer.record (.read1 dev reg s.answerNow.status (Answer.readValue s.answerNow))

/-- The state after `BusWrite1(dev, reg, value)` (R61, R8). -/
def State.busWrite1 (s : State) (dev : DevAddr) (reg : RegAddr) (value : Byte) : State :=
  s.dropAnswer.record (.write1 dev reg value s.answerNow.status)

/-- The register address a burst sends to the transport (R62, R85). -/
def burstAddr (start : RegAddr) : RegAddr := start ||| Config.burstAddrOr

/-- The state after `BusReadN(dev, start | BURST_ADDR_OR, count)` (R62, R8). -/
def State.busReadN (s : State) (dev : DevAddr) (start : RegAddr) (count : Byte) : State :=
  s.dropAnswer.record
    (.readN dev (burstAddr start) count s.answerNow.status (Answer.burstBytes s.answerNow count))

/-! ### The sink and the event source -/

/-- `SinkWrite(bytes)`: one call, appended whole, never fails and never blocks (R173, R174). -/
def State.sinkWrite (s : State) (bytes : List Byte) : State := s.record (.frame bytes)

/-- `EvtAck()`: the event source's pending bit is cleared (R38, R188). -/
def State.evtAck (s : State) : State := { s with evtPend := false }

/-- The event source raises its trigger; a trigger raised while one is pending merges with it (R189, R190). -/
def State.raiseTrigger (s : State) : State := { s with evtPend := true }

/-! ### Reset between two operations -/

/-- The one reset, with the parameters the platform applies: every element of R41 at its reset value, the histories
empty (a run begins at reset); the inputs still to come stay (R230 to R232; log 10). -/
def State.restart (s : State) (p : Params) : State :=
  { State.resetWith p with answers := s.answers, moves := s.moves, draw := s.draw }

/-! ### Sequencing -/

/-- `k` acts on the next state of `r`; a fault or a refusal stays. -/
def andThen (r : Result) (k : State → Result) : Result :=
  match r with
  | .next t => k t
  | .fault f => .fault f
  | .refused q => .refused q

/-- `require SETTLED = 1`, the first line of every adapter operation, else refused (R111 to R113, R240). -/
def whenSettled (s : State) (run : Result) : Result :=
  if s.settled then run else .refused .notSettled

/-! ### What the outside reads -/

/-- Whether an entry of the observation is a bus transaction. -/
def Event.isBus : Event → Bool
  | .read1 _ _ _ _ => true
  | .write1 _ _ _ _ => true
  | .readN _ _ _ _ _ => true
  | .frame _ => false

/-- The bytes an entry of the observation put on the sink stream. -/
def Event.sinkBytes : Event → List Byte
  | .read1 _ _ _ _ => []
  | .write1 _ _ _ _ => []
  | .readN _ _ _ _ _ => []
  | .frame bytes => bytes

/-- The bus history (R8). -/
def State.busHistory (s : State) : List Event := s.history.filter Event.isBus

/-- The frames written to the sink (R8). -/
def State.frames (s : State) : List Event := s.history.filter (fun e => !e.isBus)

/-- The sink stream: an ordered, append-only sequence of bytes (R37, R52, R69). -/
def State.sinkBytes (s : State) : List Byte := s.history.flatMap Event.sinkBytes

end Sys2Proof.Machine
end

