-- ==== Sys2Proof/Machine/Operands.lean ====
section
/-! DEFINITION. Reading and filling the data registers (10_state.md R21 to R23), the constants of the operating mode (R31),
the targets (R56), byte order (R65, R172), and the arithmetic of the decode datapath (41_controller.md R136 to R142). -/

namespace Sys2Proof.Machine

/-! ### Data registers -/

/-- The value of a register, none where it is `invalid` (R22). -/
def Datum.read {w : Nat} : Datum w → Option (BitVec w)
  | .invalid => none
  | .val v => some v

/-- Whether a register holds a value (R22). -/
def Datum.isVal {w : Nat} : Datum w → Bool
  | .invalid => false
  | .val _ => true

/-- The six bytes of `RAW`, none where any of them is `invalid` (R22, R136). -/
def State.rawBytes (s : State) : Option (Vector Byte 6) :=
  match s.raw[0].read, s.raw[1].read, s.raw[2].read, s.raw[3].read, s.raw[4].read, s.raw[5].read with
  | some b0, some b1, some b2, some b3, some b4, some b5 => some #v[b0, b1, b2, b3, b4, b5]
  | _, _, _, _, _, _ => none

/-- The three values of `AX`, none where any of them is `invalid` (R22, R139, R171). -/
def State.axValues (s : State) : Option (Vector Half 3) :=
  match s.ax[0].read, s.ax[1].read, s.ax[2].read with
  | some x, some y, some z => some #v[x, y, z]
  | _, _, _ => none

/-- `AX` holding three values. -/
def axOf (x y z : Half) : Vector (Datum 16) 3 := #v[.val x, .val y, .val z]

/-- All of `RAW` `invalid`, after a failed burst (R22, R113). -/
def rawInvalid : Vector (Datum 8) 6 := #v[.invalid, .invalid, .invalid, .invalid, .invalid, .invalid]

/-- `RAW[i]` after a burst: byte `i` where one was delivered, else unchanged (R113). -/
def rawSlot (bytes : List Byte) (i : Nat) (old : Datum 8) : Datum 8 :=
  match bytes[i]? with
  | some b => .val b
  | none => old

/-- `RAW` after a burst that delivered `bytes`: `RAW[i]` is byte `i`, the places past them unchanged (R113, R117). -/
def fillRaw (bytes : List Byte) (raw : Vector (Datum 8) 6) : Vector (Datum 8) 6 :=
  #v[rawSlot bytes 0 raw[0], rawSlot bytes 1 raw[1], rawSlot bytes 2 raw[2],
     rawSlot bytes 3 raw[3], rawSlot bytes 4 raw[4], rawSlot bytes 5 raw[5]]

/-! ### Constants of the operating mode -/

/-- `SHIFT(MODE)`: the low-order non-data bits discarded (R9, R31, R136). -/
def shiftOf : Mode → Nat
  | .normal => 6
  | .highResolution => 4

/-- `SENS(MODE)`: milli-g per count; it depends on the mode only (R9, R31, R139, R140). -/
def sensOf : Mode → Int
  | .normal => 4
  | .highResolution => 2

/-- `CTRL1_TARGET(MODE)` (R56). -/
def Ctrl1Table.at (t : Ctrl1Table) : Mode → Byte
  | .normal => t.normal
  | .highResolution => t.highResolution

/-- `CTRL4_TARGET(MODE, FSR)` (R56). -/
def Ctrl4Table.at (t : Ctrl4Table) : Mode → Fsr → Byte
  | .normal, .g2 => t.normal2g
  | .normal, .g4 => t.normal4g
  | .highResolution, .g2 => t.highResolution2g
  | .highResolution, .g4 => t.highResolution4g

/-- `T1` (R87). -/
def State.target1 (s : State) : Byte := Ctrl1Table.at s.ctrl1Target s.cfgMode

/-- `T4` (R87). -/
def State.target4 (s : State) : Byte := Ctrl4Table.at s.ctrl4Target s.cfgMode s.cfgFsr

/-! ### The decode datapath -/

/-- `raw16 = lo | (hi << 8)`: the byte at the lower index is the low byte (R65, R136). -/
def combine (lo hi : Byte) : Half := lo.setWidth 16 ||| hi.setWidth 16 <<< 8

/-- `decode_axis`: arithmetic shift right, floor division by a power of two, the sign kept (R11, R136, R138). -/
def decodeAxis (mode : Mode) (raw16 : Half) : Half := raw16.sshiftRight (shiftOf mode)

/-- `scale_axis`: the exact product of the signed value and the sensitivity, its low 16 bits kept (R139). -/
def scaleAxis (mode : Mode) (v : Half) : Half := BitVec.ofInt 16 (v.toInt * sensOf mode)

/-! ### The output frame -/

/-- The low byte of an axis value. -/
def lowByte (v : Half) : Byte := v.extractLsb' 0 8

/-- The high byte of an axis value. -/
def highByte (v : Half) : Byte := v.extractLsb' 8 8

/-- `order(v, VARIANT)`, first byte: low in REFERENCE, high in HISTORICAL (R172). -/
def firstByte : Variant → Half → Byte
  | .reference, v => lowByte v
  | .historical, v => highByte v

/-- `order(v, VARIANT)`, second byte (R172). -/
def secondByte : Variant → Half → Byte
  | .reference, v => highByte v
  | .historical, v => lowByte v

/-- The Output Frame: header, the three axes in the slot order X, Y, Z, footer (R98, R99, R171). -/
def frameOf (variant : Variant) (x y z : Half) : Vector Byte 8 :=
  #v[Config.header, firstByte variant x, secondByte variant x, firstByte variant y, secondByte variant y,
     firstByte variant z, secondByte variant z, Config.footer]

/-- The registers of `FRAME` holding a frame (R171). -/
def frameRegs (f : Vector Byte 8) : Vector (Datum 8) 8 :=
  #v[.val f[0], .val f[1], .val f[2], .val f[3], .val f[4], .val f[5], .val f[6], .val f[7]]

end Sys2Proof.Machine
end

