-- ==== Sys2Proof/Machine/Flags.lean ====
section
/-! DEFINITION. The flags and the tests the operations and the sequencer make (10_state.md R27 to R30, R34; 41_controller.md
R132, R151; 43_readiness.md R181 to R188), and the printed codes (R12, R31 to R34, R96, R200). -/

namespace Sys2Proof.Machine

/-! ### Tests -/

/-- `TS` after a burst: `OK` only if the transport says `OK` and delivered exactly `count` bytes (R113). -/
def burstStatus (a : Answer) (count : Byte) : Status :=
  if a.status = .ok ∧ (Answer.burstBytes a count).length = count.toNat then .ok else .fail

/-- The new-data test `(V & ND_MASK) != 0` (R28, R57, R58). -/
def newData (v : Byte) : Bool := (v &&& Config.ndMask) != 0#8

/-- `needs_write(V, T)`: the whole 8-bit value is compared (R132). -/
def needsWrite (v target : Byte) : Bool := v != target

/-- `st(TS)`, the `INITSTAT` code of a status (41_controller.md section 6). -/
def InitCode.ofStatus : Status → InitCode
  | .ok => .ok
  | .fail => .fail

/-- Whether `WAITRDY` completes: always in the Polled strategy, when `RDY = 1` in the EventDriven (R181, R182, R184). -/
def State.readyEvent (s : State) : Bool :=
  match s.strategy with
  | .polled => true
  | .eventDriven => s.rdy

/-- Whether `EVTACK` is enabled: EventDriven strategy and `EVT_PEND = 1` (R188, R211). -/
def State.handlerEnabled (s : State) : Bool := s.evtPend && decide (s.strategy = .eventDriven)

/-! ### Codes -/

/-- The 1-bit code of a status (R12). -/
def statusCode : Status → BitVec 1
  | .ok => 0#1
  | .fail => 1#1

/-- The 1-bit code of `CFG.MODE` (R31). -/
def modeCode : Mode → BitVec 1
  | .normal => 0#1
  | .highResolution => 1#1

/-- The 1-bit code of `CFG.FSR` (R31). -/
def fsrCode : Fsr → BitVec 1
  | .g2 => 0#1
  | .g4 => 1#1

/-- The 1-bit code of `STRATEGY` (R32). -/
def strategyCode : Strategy → BitVec 1
  | .polled => 0#1
  | .eventDriven => 1#1

/-- The 1-bit code of `VARIANT` (R33). -/
def variantCode : Variant → BitVec 1
  | .reference => 0#1
  | .historical => 1#1

/-- The trace code of a condition (R200). -/
def Condition.code : Condition → Nat
  | .transportFailure => 1
  | .noNewData => 2
  | .configurationMismatch => 3

/-- The 4-bit code of a state of `ST` (R96). -/
def SeqState.code : SeqState → BitVec 4
  | .settle => 0x0#4
  | .cfg1Rd => 0x1#4
  | .cfg1Wr => 0x2#4
  | .cfg4Rd => 0x3#4
  | .cfg4Wr => 0x4#4
  | .idle => 0x5#4
  | .status => 0x6#4
  | .burst => 0x7#4
  | .decode => 0x8#4
  | .scale => 0x9#4
  | .emit => 0xA#4
  | .done => 0xB#4

/-- The state a code of `ST` names; a loader refuses 0xC to 0xF (R96, R157). -/
def SeqState.ofCode? (c : BitVec 4) : Option SeqState :=
  if c = 0x0#4 then some .settle
  else if c = 0x1#4 then some .cfg1Rd
  else if c = 0x2#4 then some .cfg1Wr
  else if c = 0x3#4 then some .cfg4Rd
  else if c = 0x4#4 then some .cfg4Wr
  else if c = 0x5#4 then some .idle
  else if c = 0x6#4 then some .status
  else if c = 0x7#4 then some .burst
  else if c = 0x8#4 then some .decode
  else if c = 0x9#4 then some .scale
  else if c = 0xA#4 then some .emit
  else if c = 0xB#4 then some .done
  else none

/-- The 2-bit code of an `INITSTAT` field (R34). -/
def InitCode.code : InitCode → BitVec 2
  | .notIssued => 0b00#2
  | .ok => 0b01#2
  | .fail => 0b10#2

/-- The field a 2-bit code names; a loader refuses the reserved 0b11 (R34). -/
def InitCode.ofCode? (c : BitVec 2) : Option InitCode :=
  if c = 0b00#2 then some .notIssued
  else if c = 0b01#2 then some .ok
  else if c = 0b10#2 then some .fail
  else none

/-- `INITSTAT` packed as one byte: `C1R` in bits 1:0, `C1W` in 3:2, `C4R` in 5:4, `C4W` in 7:6 (R34). -/
def InitStat.toByte (i : InitStat) : Byte := i.c4w.code ++ i.c4r.code ++ i.c1w.code ++ i.c1r.code

/-- The fields of a packed `INITSTAT`, refused where one is reserved (R34). -/
def InitStat.ofByte? (b : Byte) : Option InitStat :=
  match InitCode.ofCode? (b.extractLsb' 0 2), InitCode.ofCode? (b.extractLsb' 2 2),
      InitCode.ofCode? (b.extractLsb' 4 2), InitCode.ofCode? (b.extractLsb' 6 2) with
  | some c1r, some c1w, some c4r, some c4w => some ⟨c1r, c1w, c4r, c4w⟩
  | _, _, _, _ => none

/-- The last status of an init step: the write's if one was issued, else the read's (R34). -/
def InitCode.orElse : InitCode → InitCode → InitCode
  | .notIssued, read => read
  | .ok, _ => .ok
  | .fail, _ => .fail

/-- The last status of init step 2, exposed as R34 says. -/
def InitStat.lastStep2 (i : InitStat) : InitCode := i.c1w.orElse i.c1r

/-- The last status of init step 3, exposed as R34 says. -/
def InitStat.lastStep3 (i : InitStat) : InitCode := i.c4w.orElse i.c4r

end Sys2Proof.Machine
end

