-- ==== Sys2Proof/Machine/Adapter.lean ====
section
/-! DEFINITION. The Register Access Adapter (40_adapter.md R110 to R117): one transport call per operation, no retry, the
status passed on in `TS`, data stored as delivered. -/

namespace Sys2Proof.Machine

/-- `RDREG dev, reg` (R111): `TS` and `V`; with `FAIL` the value is absent and `V` is `invalid` (R22). -/
def execRdreg (dev : DevAddr) (reg : RegAddr) (s : State) : Result :=
  whenSettled s
    (match s.answerNow.status with
    | .ok => .next { s.busRead1 dev reg with ts := .ok, v := .val s.answerNow.value }
    | .fail => .next ({ s.busRead1 dev reg with ts := .fail, v := .invalid }.raise .transportFailure))

/-- `WRREG dev, reg, value` (R112): `TS` only. -/
def execWrreg (dev : DevAddr) (reg : RegAddr) (value : Byte) (s : State) : Result :=
  whenSettled s
    (match s.answerNow.status with
    | .ok => .next { s.busWrite1 dev reg value with ts := .ok }
    | .fail => .next ({ s.busWrite1 dev reg value with ts := .fail }.raise .transportFailure))

/-- `RDBURST dev, start, count` (R113): exactly `count` bytes into `RAW`, or `FAIL` and all of `RAW` `invalid`. A count
of 0 or above `BURST_LEN` is ill-formed and refused (R88). -/
def execRdburst (dev : DevAddr) (start : RegAddr) (count : Byte) (s : State) : Result :=
  if burstCountOk count then
    whenSettled s
      (match burstStatus s.answerNow count with
      | .ok =>
        .next { s.busReadN dev start count with
          ts := .ok, raw := fillRaw (Answer.burstBytes s.answerNow count) s.raw }
      | .fail =>
        .next ({ s.busReadN dev start count with ts := .fail, raw := rawInvalid }.raise .transportFailure))
  else .refused .burstCount

end Sys2Proof.Machine
end

