-- ==== Sys2Proof/Machine/Controller.lean ====
section
/-! DEFINITION. The Device Controller's operations `SETTLE`, `DECODE`, `SCALE` (41_controller.md R131, R136, R139). -/

namespace Sys2Proof.Machine

/-- `SETTLE` (R131): one step that always completes (R250; log 18). -/
def execSettle (s : State) : Result := .next { s with settled := true }

/-- `DECODE`, the sign-extender (R136): an `invalid` byte of `RAW` is a fault (R22). -/
def execDecode (s : State) : Result :=
  match s.rawBytes with
  | some b =>
    .next { s with
      ax := axOf (decodeAxis s.cfgMode (combine b[0] b[1])) (decodeAxis s.cfgMode (combine b[2] b[3]))
        (decodeAxis s.cfgMode (combine b[4] b[5])) }
  | none => .fault (.invalidRead .raw)

/-- `SCALE`, the fixed-point scaler (R139): all three axes are read before any is written; an `invalid` axis is a fault
(R22). The sequencer issues it in the REFERENCE variant only (R143, R153); the operation itself reads no `VARIANT`. -/
def execScale (s : State) : Result :=
  match s.axValues with
  | some a =>
    .next { s with
      ax := axOf (scaleAxis s.cfgMode a[0]) (scaleAxis s.cfgMode a[1]) (scaleAxis s.cfgMode a[2]) }
  | none => .fault (.invalidRead .ax)

end Sys2Proof.Machine
end

