-- ==== Sys2Proof/Machine/Emitter.lean ====
section
/-! DEFINITION. The Frame Emitter's operation `EMIT` (42_frame_emitter.md R170 to R177). -/

namespace Sys2Proof.Machine

/-- `EMIT` (R171): all eight registers of `FRAME` written, then the eight bytes handed to the sink in one call, in index
order (R173); an `invalid` axis is a fault (R22). -/
def execEmit (s : State) : Result :=
  match s.axValues with
  | some a =>
    .next ({ s with frame := frameRegs (frameOf s.variant a[0] a[1] a[2]) }.sinkWrite
      (frameOf s.variant a[0] a[1] a[2]).toList)
  | none => .fault (.invalidRead .ax)

end Sys2Proof.Machine
end

