-- ==== Sys2Proof/Machine/Readiness.lean ====
section
/-! DEFINITION. The operations on the Readiness Flag: `WAITRDY`, `RDYCLR`, `EVTACK` (43_readiness.md R181, R186, R188). -/

namespace Sys2Proof.Machine

/-- `WAITRDY` reads `STRATEGY` and `RDY` and writes no element of the CORE (R181). It completes when `State.readyEvent`
says so; else it stays pending, which the model notes in `held`, and whoever issued it issues it again (R184; log 6). -/
def execWaitrdy (s : State) : Result := .next { s with held := !s.readyEvent }

/-- `RDYCLR` (R186). -/
def execRdyclr (s : State) : Result := .next { s with rdy := false }

/-- `EVTACK`, the handler's whole body: entry, acknowledge and return in one indivisible step (R188, R213, R214). Where
it is not enabled it has no step (R188; log 7). -/
def execEvtack (s : State) : Result :=
  if s.handlerEnabled then .next { s.evtAck with rdy := true } else .refused .handlerNotEnabled

end Sys2Proof.Machine
end

