-- ==== Sys2Proof/Machine/Dispatch.lean ====
section
/-! DEFINITION. The meaning of every operation: one direct call of its definition (30_encoding.md R81). -/

namespace Sys2Proof.Machine

def exec (i : Instr) (s : State) : Host.Outcome State Fault Refusal :=
  match i with
  | .rdreg dev reg => Sys2Proof.Machine.execRdreg dev reg s
  | .wrreg dev reg value => Sys2Proof.Machine.execWrreg dev reg value s
  | .rdburst dev start count => Sys2Proof.Machine.execRdburst dev start count s
  | .settle => Sys2Proof.Machine.execSettle s
  | .waitrdy => Sys2Proof.Machine.execWaitrdy s
  | .decode => Sys2Proof.Machine.execDecode s
  | .scale => Sys2Proof.Machine.execScale s
  | .emit => Sys2Proof.Machine.execEmit s
  | .rdyclr => Sys2Proof.Machine.execRdyclr s
  | .evtack => Sys2Proof.Machine.execEvtack s

end Sys2Proof.Machine
end

