-- ==== Sys2Proof/Machine/Sequencer.lean ====
section
/-! DEFINITION. The sequencer `SEQ` (41_controller.md R145 to R157), the handler `HND` (43_readiness.md R188), whose turn
it is (R6, R212), and the pseudo-operations (30_encoding.md R91; R158 to R162). -/

namespace Sys2Proof.Machine

/-! ### The operation a state of `ST` issues -/

/-- The operation `SEQ` issues in the state it is in (R87, R96). -/
def State.issue (s : State) : Instr :=
  match s.st with
  | .settle => .settle
  | .cfg1Rd => .rdreg Config.devAddr Config.regCtrl1
  | .cfg1Wr => .wrreg Config.devAddr Config.regCtrl1 s.target1
  | .cfg4Rd => .rdreg Config.devAddr Config.regCtrl4
  | .cfg4Wr => .wrreg Config.devAddr Config.regCtrl4 s.target4
  | .idle => .waitrdy
  | .status => .rdreg Config.devAddr Config.regStatus
  | .burst => .rdburst Config.devAddr Config.regOutBase Config.burstLen
  | .decode => .decode
  | .scale => .scale
  | .emit => .emit
  | .done => .rdyclr

/-- The op word `SEQ` issues (R82, R87). -/
def State.opWord (s : State) : OpWord := encode s.issue

/-- The op word `HND` issues (R87). -/
def handlerWord : OpWord := encode .evtack

/-- A unit that is driven with an op word decodes it and performs the operation; an illegal word has no step (R88). -/
def runWord (w : OpWord) (s : State) : Result :=
  match decode w with
  | .ok i => exec i s
  | .error e => .refused (.illegalOpWord e)

/-! ### What `SEQ` records and its next state, once the operation has completed -/

/-- The end of `S_CFG1_RD` and `S_CFG4_RD`: `V` is compared only when `TS = OK` (R146, R148, R132; conflict C9). -/
def afterConfigRead (target : Byte) (write skip : SeqState) (s : State) : Result :=
  match s.ts with
  | .ok =>
    match s.v with
    | .val v =>
      if needsWrite v target then .next ({ s with st := write }.raise .configurationMismatch)
      else .next { s with st := skip }
    | .invalid => .fault (.invalidRead .v)
  | .fail =>
    match s.onReadFail with
    | .write => .next { s with st := write }
    | .skip => .next { s with st := skip }

/-- `RDY` after the new-data test: in the Polled strategy the poll result is written to it (R151, R183). -/
def State.pollRdy (s : State) (nd : Bool) : Bool :=
  match s.strategy with
  | .polled => nd
  | .eventDriven => s.rdy

/-- The end of `S_STATUS` (R151). -/
def afterStatusRead (s : State) : Result :=
  match s.ts with
  | .fail => .next { s with st := .done }
  | .ok =>
    match s.v with
    | .val v =>
      if newData v then .next { s with nd := true, rdy := s.pollRdy true, st := .burst }
      else .next ({ s with nd := false, rdy := s.pollRdy false, st := .done }.raise .noNewData)
    | .invalid => .fault (.invalidRead .v)

/-- The end of `S_BURST` (R152). -/
def afterBurst (s : State) : Result :=
  match s.ts with
  | .fail => .next { s with st := .done }
  | .ok => .next { s with st := .decode }

/-- The state after `S_DECODE`: `SCALE` is skipped in the HISTORICAL variant (R143, R153). -/
def afterDecode : Variant → SeqState
  | .reference => .scale
  | .historical => .emit

/-- What `SEQ` records when its operation has completed, and the next state (R145 to R156). In `S_IDLE` a `WAITRDY` that
has not completed leaves `ST` as it is (R150, R181). -/
def complete (s : State) : Result :=
  match s.st with
  | .settle => .next { s with st := .cfg1Rd }
  | .cfg1Rd =>
    afterConfigRead s.target1 .cfg1Wr .cfg4Rd
      { s with initStat := { s.initStat with c1r := InitCode.ofStatus s.ts } }
  | .cfg1Wr =>
    .next { s with initStat := { s.initStat with c1w := InitCode.ofStatus s.ts }, st := .cfg4Rd }
  | .cfg4Rd =>
    afterConfigRead s.target4 .cfg4Wr .idle
      { s with initStat := { s.initStat with c4r := InitCode.ofStatus s.ts } }
  | .cfg4Wr =>
    .next { s with initStat := { s.initStat with c4w := InitCode.ofStatus s.ts }, st := .idle }
  | .idle => if s.held then .next s else .next { s with st := .status }
  | .status => afterStatusRead s
  | .burst => afterBurst s
  | .decode => .next { s with st := afterDecode s.variant }
  | .scale => .next { s with st := .emit }
  | .emit => .next { s with st := .done }
  | .done => .next { s with st := .idle }

/-- One step of `SEQ`: issue the state's op word, let the operation complete, record, write the next state (R25, R241). -/
def seqStep (s : State) : Result := andThen (runWord s.opWord s) complete

/-- The one step of `HND`: `EVTACK`, which leaves `ST` untouched (R188, R163). -/
def handlerStep (s : State) : Result := runWord handlerWord s

/-! ### Whose turn it is -/

/-- What the next step of the machine is. -/
inductive Turn where
  /-- An op word from outside is on the op-word lines: it is performed, and no rule of `SEQ` follows it (log 5). -/
  | direct (w : OpWord)
  | sequencer
  | handler
  /-- The event source raises its trigger (R189). -/
  | trigger
  /-- The platform resets the CORE (R230). -/
  | reset (p : Params)
  deriving DecidableEq, Repr

/-- Whose turn it is when the move is taken: `issuer` drives the op-word lines. `HND` may go between any two steps of the
issuer when it is enabled (R6, R188, R212); a turn offered to it while it has no step is the issuer's (log 9). -/
def State.offeredTurn (s : State) (issuer : Turn) : Turn :=
  match s.moveNow with
  | .sequencer => issuer
  | .handler => if s.handlerEnabled then .handler else issuer
  | .trigger => .trigger
  | .reset p => .reset p

/-- Whose turn it is. A direct op word is performed before any move is taken; while it is a pending `WAITRDY` it issues
again when the move says so, so that an `EVTACK` of `HND` can lift the hold (R184; log 5, log 6). -/
def State.turn (s : State) : Turn :=
  match s.direct with
  | some w => if s.held then s.offeredTurn (.direct w) else .direct w
  | none => s.offeredTurn .sequencer

/-- The direct op word is taken off the op-word lines, with the move that let it issue again where it was pending (log 5). -/
def State.takeDirect (s : State) : State :=
  { s with
    direct := none, held := false,
    moves := if s.held then s.moves.tail else s.moves,
    draw := if s.held then s.draw + 1 else s.draw }

/-- A direct op word that stays pending stays on the op-word lines (R181; log 5, log 6). -/
def holdDirect (w : OpWord) (s : State) : Result :=
  .next { s with direct := if s.held then some w else s.direct }

/-- The step of a direct op word: performed, and kept on the lines while it is pending (log 5). -/
def directStep (w : OpWord) (s : State) : Result := andThen (runWord w s.takeDirect) (holdDirect w)

/-! ### Pseudo-operations -/

/-- The names of R91. -/
inductive Pseudo where
  | cfgreg1
  | cfgreg4
  | init
  | chkstat
  | sample
  deriving DecidableEq, Repr

/-- The states a pseudo-operation's path lies in (R91, R158 to R161). -/
def Pseudo.covers : Pseudo → SeqState → Bool
  | .cfgreg1, st => decide (st ∈ [SeqState.cfg1Rd, SeqState.cfg1Wr])
  | .cfgreg4, st => decide (st ∈ [SeqState.cfg4Rd, SeqState.cfg4Wr])
  | .init, st => decide (st ∈ [SeqState.settle, SeqState.cfg1Rd, SeqState.cfg1Wr, SeqState.cfg4Rd, SeqState.cfg4Wr])
  | .chkstat, st => decide (st = SeqState.status)
  | .sample, st =>
    decide (st ∈ [SeqState.status, SeqState.burst, SeqState.decode, SeqState.scale, SeqState.emit, SeqState.done])

/-- The longest path of a pseudo-operation, in steps of `SEQ` (R158 to R161). -/
def Pseudo.maxSteps : Pseudo → Nat
  | .cfgreg1 => 2
  | .cfgreg4 => 2
  | .init => 5
  | .chkstat => 1
  | .sample => 6

/-- Steps of `SEQ` while its state lies in the path, at most `fuel` of them. -/
def seqWhile (inPath : SeqState → Bool) : Nat → State → Result
  | 0, s => .next s
  | fuel + 1, s => if inPath s.st then andThen (seqStep s) (seqWhile inPath fuel) else .next s

/-- A pseudo-operation, from its first state, as steps of `SEQ` alone (R91). -/
def runPseudo (p : Pseudo) (s : State) : Result := seqWhile p.covers p.maxSteps s

/-- One round of `LOOP`: `WAITRDY` then `SAMPLE` (R162). -/
def loopRound (s : State) : Result := andThen (seqStep s) (runPseudo .sample)

end Sys2Proof.Machine
end

