-- ==== Sys2Proof/Machine/Step.lean ====
section
/-! DEFINITION. One step of the machine: of `SEQ`, of `HND`, of the event source, a reset, or one op word from outside
(00_scope.md R6, R7; 60_exceptions.md R212; log 3, log 5). -/

namespace Sys2Proof.Machine

/-- One step. -/
def step (s : State) : Host.Outcome State Fault Refusal :=
  match s.turn with
  | .direct w => directStep w s
  | .sequencer => seqStep s.dropMove
  | .handler => handlerStep s.dropMove
  | .trigger => .next s.dropMove.raiseTrigger
  | .reset p => .next (s.dropMove.restart p)

/-- `s` with an op word on the op-word lines, so that the next step performs exactly it, nothing pending. The CORE has no instruction
memory (R1, R82): its wired program is selected by `ST` and needs no load (log 5, log 17). -/
def State.withFetchWord (s : State) (nbits w : Nat) : State :=
  { s with direct := some (tableWord nbits w), held := false }

end Sys2Proof.Machine
end

