-- ==== Sys2Proof/Safety.lean ====
section
/-! DEFINITION. What counts as a safe run of the wired machine, in the terms the statements use: the properties of a state
that every step is claimed to keep. -/

namespace Sys2Proof.Machine

/-! ### States after one transaction of the wired machine -/

/-- The state after a single read of the device that the transport answers with `OK` (R111). -/
def State.afterOkRead (s : State) (reg : RegAddr) : State :=
  { s with
    ts := .ok, v := .val s.answerNow.value,
    history := s.history ++ [.read1 Config.devAddr reg .ok (some s.answerNow.value)],
    answers := s.answers.tail, draw := s.draw + 1 }

/-- The state after a single read of the device that the transport answers with `FAIL` (R111). -/
def State.afterFailedRead (s : State) (reg : RegAddr) : State :=
  { s with
    ts := .fail, v := .invalid,
    history := s.history ++ [.read1 Config.devAddr reg .fail none],
    raised := s.raised ++ [.transportFailure],
    answers := s.answers.tail, draw := s.draw + 1 }

/-- The state after a single write of the device that the transport answers with `OK` (R112). -/
def State.afterOkWrite (s : State) (reg : RegAddr) (value : Byte) : State :=
  { s with
    ts := .ok,
    history := s.history ++ [.write1 Config.devAddr reg value .ok],
    answers := s.answers.tail, draw := s.draw + 1 }

/-- The state after a single write of the device that the transport answers with `FAIL` (R112). -/
def State.afterFailedWrite (s : State) (reg : RegAddr) (value : Byte) : State :=
  { s with
    ts := .fail,
    history := s.history ++ [.write1 Config.devAddr reg value .fail],
    raised := s.raised ++ [.transportFailure],
    answers := s.answers.tail, draw := s.draw + 1 }

/-! ### Sets of sequencer states -/

/-- The five states of the initialization protocol (R26, R159). -/
def SeqState.inInit : SeqState → Bool
  | .settle | .cfg1Rd | .cfg1Wr | .cfg4Rd | .cfg4Wr => true
  | .idle | .status | .burst | .decode | .scale | .emit | .done => false

/-- The states in which control register 1 has not been written since reset (R145 to R147). -/
def SeqState.beforeCtrl1Write : SeqState → Bool
  | .settle | .cfg1Rd | .cfg1Wr => true
  | .cfg4Rd | .cfg4Wr | .idle | .status | .burst | .decode | .scale | .emit | .done => false

/-- The states of a sampling step after the status test (R151 to R156). -/
def SeqState.afterStatus : SeqState → Bool
  | .burst | .decode | .scale | .emit | .done => true
  | .settle | .cfg1Rd | .cfg1Wr | .cfg4Rd | .cfg4Wr | .idle | .status => false

/-- The states from the release of a sampling step to its `RDYCLR` (R161, R243). -/
def SeqState.inSample : SeqState → Bool
  | .status | .burst | .decode | .scale | .emit | .done => true
  | .settle | .cfg1Rd | .cfg1Wr | .cfg4Rd | .cfg4Wr | .idle => false

/-! ### The machine goes on -/

/-- No op word comes from outside: the op-word lines carry what `SEQ` and `HND` put on them (R82, R87). -/
def State.Wired (s : State) : Prop := s.direct = none

/-- Every register the current state's operation reads holds a value (R22), and the settle delay has elapsed once the
machine has left `S_SETTLE` (R240). -/
def State.Ready (s : State) : Prop :=
  (s.st ≠ .settle → s.settled = true) ∧
  (s.st = .decode → s.rawBytes.isSome = true) ∧
  (s.st = .scale ∨ s.st = .emit → s.axValues.isSome = true)

/-! ### Observations -/

/-- A frame as R175 describes every one: 8 bytes, the header first, the footer last. -/
def frameShape (bytes : List Byte) : Prop :=
  bytes.length = Config.frameLen ∧ bytes.head? = some Config.header ∧ bytes.getLast? = some Config.footer

/-- Every frame in the history has the shape of R175. -/
def State.FramesShaped (s : State) : Prop := ∀ bytes, Event.frame bytes ∈ s.history → frameShape bytes

/-- What the axis value of a raw pair is in a frame: milli-g in REFERENCE, counts in HISTORICAL (R143, R177). -/
def payloadAxis (variant : Variant) (mode : Mode) (lo hi : Byte) : Half :=
  match variant with
  | .reference => scaleAxis mode (decodeAxis mode (combine lo hi))
  | .historical => decodeAxis mode (combine lo hi)

/-- The frame of one Raw Sample (R136, R139, R143, R171). -/
def frameOfSample (variant : Variant) (mode : Mode) (b : Vector Byte 6) : List Byte :=
  (frameOf variant (payloadAxis variant mode b[0] b[1]) (payloadAxis variant mode b[2] b[3])
    (payloadAxis variant mode b[4] b[5])).toList

/-- The burst of the outputs, answered with the six bytes `b` (R53, R152). -/
def sampleBurst (b : Vector Byte 6) : Event :=
  .readN Config.devAddr (burstAddr Config.regOutBase) Config.burstLen .ok b.toList

/-- Every frame in the history stands directly after a completed burst of the outputs and is that sample's frame. -/
def State.FramesFromBursts (s : State) : Prop :=
  ∀ pre bytes post, s.history = pre ++ Event.frame bytes :: post →
    ∃ before b, pre = before ++ [sampleBurst b] ∧ bytes = frameOfSample s.variant s.cfgMode b

/-- Between the burst and the frame: the history ends with the burst, and the registers hold what it delivered as far as
it has been processed (R152 to R155). -/
def State.SampleInFlight (s : State) : Prop :=
  (s.st = .decode → ∃ before b, s.history = before ++ [sampleBurst b] ∧ s.rawBytes = some b) ∧
  (s.st = .scale → s.variant = .reference ∧ ∃ before b, s.history = before ++ [sampleBurst b] ∧
    s.ax = axOf (decodeAxis s.cfgMode (combine b[0] b[1])) (decodeAxis s.cfgMode (combine b[2] b[3]))
      (decodeAxis s.cfgMode (combine b[4] b[5]))) ∧
  (s.st = .emit → ∃ before b, s.history = before ++ [sampleBurst b] ∧
    s.ax = axOf (payloadAxis s.variant s.cfgMode b[0] b[1]) (payloadAxis s.variant s.cfgMode b[2] b[3])
      (payloadAxis s.variant s.cfgMode b[4] b[5]))

/-- A status read that found the new-data bit set (R57, R242). -/
def Event.IsDataReadyRead (e : Event) : Prop :=
  ∃ v, e = .read1 Config.devAddr Config.regStatus .ok (some v) ∧ newData v = true

/-- Every burst in the history stands directly after a status read that found the new-data bit set, and so does a burst
that is about to be issued (R242). -/
def State.BurstsAfterStatus (s : State) : Prop :=
  (∀ pre dev start count status bytes post,
    s.history = pre ++ Event.readN dev start count status bytes :: post →
      ∃ before e, pre = before ++ [e] ∧ e.IsDataReadyRead) ∧
  (s.st = .burst → ∃ before e, s.history = before ++ [e] ∧ e.IsDataReadyRead)

/-- The only requests the wired machine makes (R50, R53, R87): single reads of `CTRL1`, `CTRL4`, `STATUS`, writes of the
targets to `CTRL1` and `CTRL4`, bursts of the six outputs, all to the one device. -/
def Event.IsWiredRequest (target1 target4 : Byte) : Event → Prop
  | .read1 dev reg _ _ =>
    dev = Config.devAddr ∧ (reg = Config.regCtrl1 ∨ reg = Config.regCtrl4 ∨ reg = Config.regStatus)
  | .write1 dev reg value _ =>
    dev = Config.devAddr ∧
      ((reg = Config.regCtrl1 ∧ value = target1) ∨ (reg = Config.regCtrl4 ∧ value = target4))
  | .readN dev start count _ _ =>
    dev = Config.devAddr ∧ start = burstAddr Config.regOutBase ∧ count = Config.burstLen
  | .frame _ => True

/-- Every bus transaction in the history is one of the wired requests. -/
def State.RequestsWired (s : State) : Prop :=
  ∀ e ∈ s.history, e.IsWiredRequest s.target1 s.target4

/-- Whether an entry is a write to the register `reg` of the device. -/
def Event.isWriteTo (reg : RegAddr) : Event → Bool
  | .write1 dev r _ _ => decide (dev = Config.devAddr) && decide (r = reg)
  | .read1 _ _ _ _ => false
  | .readN _ _ _ _ _ => false
  | .frame _ => false

/-- How many writes to a register of the device the history holds. -/
def State.writesTo (s : State) (reg : RegAddr) : Nat := s.history.countP (Event.isWriteTo reg)

/-- Each control register is written at most once since reset, and not before its write state (R68, R134). -/
def State.WritesOnce (s : State) : Prop :=
  s.writesTo Config.regCtrl1 ≤ 1 ∧ s.writesTo Config.regCtrl4 ≤ 1 ∧
  (s.st.beforeCtrl1Write = true → s.writesTo Config.regCtrl1 = 0) ∧
  (s.st.inInit = true → s.writesTo Config.regCtrl4 = 0)

/-! ### Registers -/

/-- In the Polled strategy `RDY` is set only between the status test and `RDYCLR` (R183). -/
def State.PolledRdyLocal (s : State) : Prop :=
  s.strategy = .polled → s.rdy = true → s.st.afterStatus = true

/-- The range of a count after `DECODE` (R24, R138). -/
def countRange : Mode → Half → Prop
  | .normal, v => -512 ≤ v.toInt ∧ v.toInt ≤ 511
  | .highResolution, v => -2048 ≤ v.toInt ∧ v.toInt ≤ 2047

/-- The range of a milli-g value after `SCALE` (R24). -/
def milliGRange : Mode → Half → Prop
  | .normal, v => -2048 ≤ v.toInt ∧ v.toInt ≤ 2044 ∧ v.toInt % 4 = 0
  | .highResolution, v => -4096 ≤ v.toInt ∧ v.toInt ≤ 4094 ∧ v.toInt % 2 = 0

/-- The range of an axis value that is about to be emitted (R177). -/
def payloadRange : Variant → Mode → Half → Prop
  | .reference, mode, v => milliGRange mode v
  | .historical, mode, v => countRange mode v

/-- The axis values lie in the ranges of R24 and R177 while a sample is processed. -/
def State.AxRanged (s : State) : Prop :=
  (s.st = .scale → s.variant = .reference ∧ ∃ x y z, s.ax = axOf x y z ∧
    countRange s.cfgMode x ∧ countRange s.cfgMode y ∧ countRange s.cfgMode z) ∧
  (s.st = .emit → ∃ x y z, s.ax = axOf x y z ∧
    payloadRange s.variant s.cfgMode x ∧ payloadRange s.variant s.cfgMode y ∧
    payloadRange s.variant s.cfgMode z)

/-- The statuses of the two reads are recorded once their states have been left (R34, R146, R148). -/
def State.InitRecorded (s : State) : Prop :=
  (s.st ≠ .settle → s.st ≠ .cfg1Rd → s.initStat.c1r ≠ .notIssued) ∧
  (s.st.inInit = false ∨ s.st = .cfg4Wr → s.initStat.c4r ≠ .notIssued)

/-- The parameters a state runs with (R9, R35). -/
def State.params (s : State) : Params :=
  ⟨s.cfgMode, s.cfgFsr, s.strategy, s.variant, s.ctrl1Target, s.ctrl4Target, s.onReadFail⟩

end Sys2Proof.Machine
end

