-- ==== Sys2Proof/Certificates/Slice0/Obligations.lean ====
section
/-! DEFINITION. The statements for the provers, from the numbered rules of spec/. A statement about every state holds in
every state, reached or not, and for every answer of the transport and every choice of who moves; where it needs a property
of the wired machine, that property is a premise and its invariance a statement of its own. In the results of the
operations `answers`, `draw`, `moves`, `direct`, `held` and `raised` are the model's own fields (log 2, log 3, log 5, log 6, log 11). -/

open Sys2Proof Sys2Proof.Machine

/-! ### Encoding -/

/-- Decode and encode agree, for every well-formed operation and every value of its operands (R83, R84, R86, R88). -/
def Obligations.EncodeThenDecode : Prop :=
  ∀ i : Instr, i.wellFormed = true → decode (encode i) = .ok i

/-- Every op word that is decoded is the encoding of its operation, which is well-formed: no bit is dropped (R83, R84, R88). -/
def Obligations.DecodeThenEncode : Prop :=
  ∀ (w : OpWord) (i : Instr), decode w = .ok i → encode i = w ∧ i.wellFormed = true

/-- R86: an op word selects the operation whose row it satisfies, `RDBURST` with its further check. -/
def Obligations.OpcodeMapSelects : Prop :=
  ∀ w : OpWord,
    ((∃ dev reg, decode w = .ok (.rdreg dev reg)) ↔ w &&& 0xFF8000FF#32 = 0x10000000#32) ∧
    ((∃ dev reg value, decode w = .ok (.wrreg dev reg value)) ↔ w &&& 0xFF800000#32 = 0x20000000#32) ∧
    ((∃ dev start count, decode w = .ok (.rdburst dev start count)) ↔
      w &&& 0xFF800000#32 = 0x30000000#32 ∧ 1 ≤ w.toNat % 256 ∧ w.toNat % 256 ≤ 6) ∧
    (decode w = .ok .settle ↔ w &&& 0xFFFFFFFF#32 = 0x40000000#32) ∧
    (decode w = .ok .waitrdy ↔ w &&& 0xFFFFFFFF#32 = 0x50000000#32) ∧
    (decode w = .ok .decode ↔ w &&& 0xFFFFFFFF#32 = 0x60000000#32) ∧
    (decode w = .ok .scale ↔ w &&& 0xFFFFFFFF#32 = 0x70000000#32) ∧
    (decode w = .ok .emit ↔ w &&& 0xFFFFFFFF#32 = 0x80000000#32) ∧
    (decode w = .ok .rdyclr ↔ w &&& 0xFFFFFFFF#32 = 0x90000000#32) ∧
    (decode w = .ok .evtack ↔ w &&& 0xFFFFFFFF#32 = 0xA0000000#32)

/-- 30_encoding.md section 3: the operands of a decoded op word are its fields, unsigned and unchanged. -/
def Obligations.OperandsAreFields : Prop :=
  ∀ w : OpWord,
    (∀ dev reg, decode w = .ok (.rdreg dev reg) →
      dev.toNat = w.toNat / 2 ^ 16 % 2 ^ 7 ∧ reg.toNat = w.toNat / 2 ^ 8 % 2 ^ 8) ∧
    (∀ dev reg value, decode w = .ok (.wrreg dev reg value) →
      dev.toNat = w.toNat / 2 ^ 16 % 2 ^ 7 ∧ reg.toNat = w.toNat / 2 ^ 8 % 2 ^ 8 ∧
        value.toNat = w.toNat % 2 ^ 8) ∧
    (∀ dev start count, decode w = .ok (.rdburst dev start count) →
      dev.toNat = w.toNat / 2 ^ 16 % 2 ^ 7 ∧ start.toNat = w.toNat / 2 ^ 8 % 2 ^ 8 ∧
        count.toNat = w.toNat % 2 ^ 8)

/-- R88: which op words are illegal or ill-formed, that each is refused by name, and that a unit driven with one gives it no
step. For an `RDREG` word with both `Z5` and `ARG` not zero, only that it is refused: the name is the model's (log 24). -/
def Obligations.IllegalOpWordsRefused : Prop :=
  ∀ w : OpWord,
    (OpWord.op w = 0x0#4 ∨ 0xB ≤ (OpWord.op w).toNat → decode w = .error .reservedOp) ∧
    (1 ≤ (OpWord.op w).toNat → (OpWord.op w).toNat ≤ 3 → OpWord.z5 w ≠ 0#5 →
      ∃ e, decode w = .error e ∧ (OpWord.op w ≠ 0x1#4 ∨ OpWord.arg w = 0#8 → e = .nonzeroZ5)) ∧
    (OpWord.op w = 0x1#4 → OpWord.z5 w = 0#5 → OpWord.arg w ≠ 0#8 → decode w = .error .nonzeroArg) ∧
    (4 ≤ (OpWord.op w).toNat → (OpWord.op w).toNat ≤ 0xA → OpWord.z28 w ≠ 0#28 →
      decode w = .error .nonzeroZ28) ∧
    (OpWord.op w = 0x3#4 → OpWord.z5 w = 0#5 → (OpWord.arg w = 0#8 ∨ 6 < (OpWord.arg w).toNat) →
      decode w = .error .burstCount) ∧
    (∀ e, decode w = .error e → ∀ s : State, runWord w s = .refused (.illegalOpWord e))

/-- 95_test_vectors.md 2.1: op words written out there stand for the operations it names. -/
def Obligations.SpecWordsDecode : Prop :=
  decode 0x10182700#32 = .ok (.rdreg 0x18#7 0x27#8) ∧
  decode 0x107FFF00#32 = .ok (.rdreg 0x7F#7 0xFF#8) ∧
  decode 0x20182057#32 = .ok (.wrreg 0x18#7 0x20#8 0x57#8) ∧
  decode 0x30182806#32 = .ok (.rdburst 0x18#7 0x28#8 6#8) ∧
  decode 0x40000000#32 = .ok .settle ∧
  decode 0x50000000#32 = .ok .waitrdy ∧
  decode 0x60000000#32 = .ok .decode ∧
  decode 0x70000000#32 = .ok .scale ∧
  decode 0x80000000#32 = .ok .emit ∧
  decode 0x90000000#32 = .ok .rdyclr ∧
  decode 0xA0000000#32 = .ok .evtack ∧
  decode 0x00000000#32 = .error .reservedOp ∧
  decode 0x10182701#32 = .error .nonzeroArg ∧
  decode 0x10982700#32 = .error .nonzeroZ5 ∧
  decode 0x90180000#32 = .error .nonzeroZ28 ∧
  decode 0x30182807#32 = .error .burstCount

/-- R87: the op words the wired sequencer and the handler issue. -/
def Obligations.WiredOpWords : Prop :=
  (∀ s : State, s.opWord =
    match s.st with
    | .settle => 0x40000000#32
    | .cfg1Rd => 0x10182000#32
    | .cfg1Wr => 0x20182000#32 ||| (Ctrl1Table.at s.ctrl1Target s.cfgMode).setWidth 32
    | .cfg4Rd => 0x10182300#32
    | .cfg4Wr => 0x20182300#32 ||| (Ctrl4Table.at s.ctrl4Target s.cfgMode s.cfgFsr).setWidth 32
    | .idle => 0x50000000#32
    | .status => 0x10182700#32
    | .burst => 0x30182806#32
    | .decode => 0x60000000#32
    | .scale => 0x70000000#32
    | .emit => 0x80000000#32
    | .done => 0x90000000#32) ∧
  handlerWord = 0xA0000000#32

/-- 30_encoding.md R96 and 41_controller.md R157: the codes of `ST` name the twelve states, and 0xC to 0xF none. -/
def Obligations.SequencerCodes : Prop :=
  (∀ st : SeqState, SeqState.ofCode? st.code = some st) ∧
  (∀ c : BitVec 4, SeqState.ofCode? c = none ↔ 0xC ≤ c.toNat)

/-- 10_state.md section 5 (R34): `INITSTAT` packed as one byte, its three codes, the reserved code refused, and the last status of each
init step. -/
def Obligations.InitStatPacked : Prop :=
  (∀ i : InitStat, InitStat.ofByte? i.toByte = some i ∧
    i.toByte.toNat = i.c1r.code.toNat + 4 * i.c1w.code.toNat + 16 * i.c4r.code.toNat + 64 * i.c4w.code.toNat) ∧
  InitCode.code .notIssued = 0b00#2 ∧ InitCode.code .ok = 0b01#2 ∧ InitCode.code .fail = 0b10#2 ∧
  InitCode.ofCode? 0b11#2 = none ∧
  (∀ i : InitStat, i.lastStep2 = (if i.c1w ≠ .notIssued then i.c1w else i.c1r) ∧
    i.lastStep3 = (if i.c4w ≠ .notIssued then i.c4w else i.c4r))

/-! ### The Register Access Adapter -/

/-- R111: `RDREG`, completed with either answer, and refused before the settle delay. -/
def Obligations.RdregResult : Prop :=
  ∀ (dev : DevAddr) (reg : RegAddr) (s : State),
    encode (.rdreg dev reg) = encodeB 0x1#4 dev reg 0x00#8 ∧
    (s.settled = true → s.answerNow.status = .ok →
      exec (.rdreg dev reg) s = .next { s with
        ts := .ok, v := .val s.answerNow.value,
        history := s.history ++ [.read1 dev reg .ok (some s.answerNow.value)],
        answers := s.answers.tail, draw := s.draw + 1 }) ∧
    (s.settled = true → s.answerNow.status = .fail →
      exec (.rdreg dev reg) s = .next { s with
        ts := .fail, v := .invalid,
        history := s.history ++ [.read1 dev reg .fail none],
        raised := s.raised ++ [.transportFailure],
        answers := s.answers.tail, draw := s.draw + 1 }) ∧
    (s.settled = false → exec (.rdreg dev reg) s = .refused .notSettled)

/-- R112: `WRREG`, completed with either answer, and refused before the settle delay. -/
def Obligations.WrregResult : Prop :=
  ∀ (dev : DevAddr) (reg : RegAddr) (value : Byte) (s : State),
    encode (.wrreg dev reg value) = encodeB 0x2#4 dev reg value ∧
    (s.settled = true → s.answerNow.status = .ok →
      exec (.wrreg dev reg value) s = .next { s with
        ts := .ok,
        history := s.history ++ [.write1 dev reg value .ok],
        answers := s.answers.tail, draw := s.draw + 1 }) ∧
    (s.settled = true → s.answerNow.status = .fail →
      exec (.wrreg dev reg value) s = .next { s with
        ts := .fail,
        history := s.history ++ [.write1 dev reg value .fail],
        raised := s.raised ++ [.transportFailure],
        answers := s.answers.tail, draw := s.draw + 1 }) ∧
    (s.settled = false → exec (.wrreg dev reg value) s = .refused .notSettled)

/-- R113: `RDBURST`, for every answer of at most `count` bytes (R64): exactly `count` bytes into `RAW[0..count-1]` and the
rest of `RAW` unchanged, or `FAIL` and all of `RAW` `invalid`; a short read is a failure; an ill-formed count and a burst
before the settle delay are refused. -/
def Obligations.RdburstResult : Prop :=
  ∀ (dev : DevAddr) (start : RegAddr) (count : Byte) (s : State),
    encode (.rdburst dev start count) = encodeB 0x3#4 dev start count ∧
    (1 ≤ count.toNat → count.toNat ≤ 6 → s.settled = true →
      s.answerNow.status = .ok → s.answerNow.bytes.length = count.toNat →
      ∃ raw : Vector (Datum 8) 6,
        exec (.rdburst dev start count) s = .next { s with
          ts := .ok, raw := raw,
          history := s.history ++ [.readN dev (start ||| Config.burstAddrOr) count .ok s.answerNow.bytes],
          answers := s.answers.tail, draw := s.draw + 1 } ∧
        (∀ (i : Nat) (hi : i < 6), i < count.toNat → ∃ b, s.answerNow.bytes[i]? = some b ∧ raw[i] = .val b) ∧
        (∀ (i : Nat) (hi : i < 6), count.toNat ≤ i → raw[i] = s.raw[i])) ∧
    (1 ≤ count.toNat → count.toNat ≤ 6 → s.settled = true → s.answerNow.bytes.length ≤ count.toNat →
      s.answerNow.status = .fail ∨ s.answerNow.bytes.length < count.toNat →
        exec (.rdburst dev start count) s = .next { s with
          ts := .fail, raw := #v[.invalid, .invalid, .invalid, .invalid, .invalid, .invalid],
          history := s.history ++
            [.readN dev (start ||| Config.burstAddrOr) count s.answerNow.status s.answerNow.bytes],
          raised := s.raised ++ [.transportFailure],
          answers := s.answers.tail, draw := s.draw + 1 }) ∧
    (1 ≤ count.toNat → count.toNat ≤ 6 → s.settled = false →
      exec (.rdburst dev start count) s = .refused .notSettled) ∧
    (count.toNat = 0 ∨ 6 < count.toNat → s.settled = true →
      exec (.rdburst dev start count) s = .refused .burstCount)

/-- 20_memory.md section 4 (R64): a burst delivers at most `count` bytes. The model cuts a longer list of an answer to
`count` (log 16), so `RDBURST` does the same on both. -/
def Obligations.BurstAnswerCut : Prop :=
  ∀ (dev : DevAddr) (start : RegAddr) (count : Byte) (s : State) (a : Answer) (l : List Answer),
    exec (.rdburst dev start count) { s with answers := a :: l } =
      exec (.rdburst dev start count) { s with answers := { a with bytes := a.bytes.take count.toNat } :: l }

/-- R240: no bus transaction before the settle delay: an adapter operation is then refused, the reset state is `S_SETTLE`,
and its step sets `SETTLED` and makes no transaction. -/
def Obligations.SettleBeforeTransactions : Prop :=
  (∀ (s : State) (dev : DevAddr) (reg : RegAddr) (value : Byte), s.settled = false →
    exec (.rdreg dev reg) s = .refused .notSettled ∧
    exec (.wrreg dev reg value) s = .refused .notSettled ∧
    (∃ q, exec (.rdburst dev reg value) s = .refused q)) ∧
  State.reset.st = .settle ∧
  (∀ s : State, s.st = .settle →
    ∃ t, seqStep s = .next t ∧ t.settled = true ∧ t.history = s.history)

/-- 20_memory.md section 4 (R64): whether `SEQ` has a step does not depend on the transport's answers. -/
def Obligations.AnswersNeverBlock : Prop :=
  ∀ (s : State) (l l' : List Answer) (k k' : Nat),
    (∃ t, seqStep { s with answers := l, draw := k } = .next t) ↔
      (∃ t, seqStep { s with answers := l', draw := k' } = .next t)

/-- 40_adapter.md section 1 (R110): one adapter operation makes exactly one transport call, takes one answer, and changes
neither `ST`, `RDY`, `ND`, `AX`, `FRAME`, `CFG` nor `INITSTAT`; `V` is changed by `RDREG` only and `RAW` by `RDBURST` only. -/
def Obligations.AdapterFrame : Prop :=
  ∀ (s t : State) (dev : DevAddr) (reg : RegAddr) (arg : Byte) (i : Instr),
    i = .rdreg dev reg ∨ i = .wrreg dev reg arg ∨ i = .rdburst dev reg arg →
    exec i s = .next t →
      t.st = s.st ∧ t.rdy = s.rdy ∧ t.nd = s.nd ∧ t.ax = s.ax ∧ t.frame = s.frame ∧
      t.settled = s.settled ∧ t.params = s.params ∧ t.initStat = s.initStat ∧ t.evtPend = s.evtPend ∧
      (i ≠ .rdreg dev reg → t.v = s.v) ∧
      (i ≠ .rdburst dev reg arg → t.raw = s.raw) ∧
      (∃ e, e.isBus = true ∧ t.history = s.history ++ [e]) ∧
      (t.raised = s.raised ∧ t.ts = .ok ∨ t.raised = s.raised ++ [.transportFailure] ∧ t.ts = .fail) ∧
      t.answers = s.answers.tail ∧ t.draw = s.draw + 1 ∧ t.moves = s.moves ∧ t.direct = s.direct ∧ t.held = s.held

/-! ### The controller's operations and the emitter -/

/-- R131: `SETTLE` sets `SETTLED` and nothing else; with `SETTLED = 1` it leaves the state unchanged. -/
def Obligations.SettleResult : Prop :=
  encode .settle = 0x40000000#32 ∧
  ∀ s : State, exec .settle s = .next { s with settled := true } ∧
    (s.settled = true → exec .settle s = .next s)

/-- R136, R137: `DECODE` where `RAW` holds six bytes: each axis is the floor of the little-endian pair, read as signed
16 bits, by 64 in Normal mode and 16 in HighResolution mode, and nothing else changes; an `invalid` byte is a fault. -/
def Obligations.DecodeResult : Prop :=
  encode .decode = 0x60000000#32 ∧
  (∀ (s : State) (b : Vector Byte 6), s.raw = b.map Datum.val →
    ∃ x y z : Half,
      exec .decode s = .next { s with ax := #v[.val x, .val y, .val z] } ∧
      x.toInt = (BitVec.ofNat 16 (b[0].toNat + 256 * b[1].toNat)).toInt /
        (match s.cfgMode with | .normal => 64 | .highResolution => 16) ∧
      y.toInt = (BitVec.ofNat 16 (b[2].toNat + 256 * b[3].toNat)).toInt /
        (match s.cfgMode with | .normal => 64 | .highResolution => 16) ∧
      z.toInt = (BitVec.ofNat 16 (b[4].toNat + 256 * b[5].toNat)).toInt /
        (match s.cfgMode with | .normal => 64 | .highResolution => 16)) ∧
  (∀ s : State, (∃ (i : Nat) (hi : i < 6), s.raw[i] = .invalid) → exec .decode s = .fault (.invalidRead .raw))

/-- 41_controller.md section 4 (R136, "As bits"): the sign bit is copied into the vacated bits, the low bits are dropped. -/
def Obligations.DecodeAxisBits : Prop :=
  ∀ (raw16 : Half) (i : Nat), i < 16 →
    (decodeAxis .normal raw16).getLsbD i = raw16.getLsbD (if i + 6 < 16 then i + 6 else 15) ∧
    (decodeAxis .highResolution raw16).getLsbD i = raw16.getLsbD (if i + 4 < 16 then i + 4 else 15)

/-- R138: the combine is exact, the pair is read as two's complement, the shift is exact, the results have the stated
ranges, and each axis depends on its own pair only. -/
def Obligations.DecodeArithmetic : Prop :=
  (∀ lo hi : Byte, (combine lo hi).toNat = lo.toNat + 256 * hi.toNat) ∧
  (∀ r : Half, r.toInt = if r.toNat < 0x8000 then (r.toNat : Int) else (r.toNat : Int) - 65536) ∧
  (∀ (m : Mode) (r : Half), (decodeAxis m r).toInt = r.toInt / 2 ^ shiftOf m) ∧
  (∀ r : Half, -512 ≤ (decodeAxis .normal r).toInt ∧ (decodeAxis .normal r).toInt ≤ 511 ∧
    -2048 ≤ (decodeAxis .highResolution r).toInt ∧ (decodeAxis .highResolution r).toInt ≤ 2047) ∧
  (∀ (s s' t t' : State) (i : Nat) (hi : i < 3), s.cfgMode = s'.cfgMode →
    s.raw[2 * i] = s'.raw[2 * i] → s.raw[2 * i + 1] = s'.raw[2 * i + 1] →
    exec .decode s = .next t → exec .decode s' = .next t' → t.ax[i] = t'.ax[i])

/-- R139, R140: `SCALE` where `AX` holds three values: each is multiplied by 4 in Normal mode and 2 in HighResolution
mode, the low 16 bits of the exact product kept, and nothing else changes; the product is exact on what `DECODE` gives; an
`invalid` axis is a fault (R22). In REFERENCE, the variant it is performed in. -/
def Obligations.ScaleResult : Prop :=
  encode .scale = 0x70000000#32 ∧
  (∀ (s : State) (x y z : Half), s.variant = .reference → s.ax = #v[.val x, .val y, .val z] →
    exec .scale s = .next { s with
      ax := #v[.val (BitVec.ofInt 16 (x.toInt * (match s.cfgMode with | .normal => 4 | .highResolution => 2))),
        .val (BitVec.ofInt 16 (y.toInt * (match s.cfgMode with | .normal => 4 | .highResolution => 2))),
        .val (BitVec.ofInt 16 (z.toInt * (match s.cfgMode with | .normal => 4 | .highResolution => 2)))] }) ∧
  (∀ s : State, (∃ (i : Nat) (hi : i < 3), s.ax[i] = .invalid) → exec .scale s = .fault (.invalidRead .ax)) ∧
  (∀ (m : Mode) (r : Half), (scaleAxis m (decodeAxis m r)).toInt =
    (decodeAxis m r).toInt * (match m with | .normal => 4 | .highResolution => 2))

/-- 41_controller.md section 5 (R139): `SCALE` reads `CFG.MODE` and `AX`, not `VARIANT`: performed in the HISTORICAL variant,
which only a direct invocation does, it has the same effect (log 22). -/
def Obligations.ScaleReadsNoVariant : Prop :=
  ∀ (s t : State) (v : Variant), exec .scale s = .next t →
    exec .scale { s with variant := v } = .next { t with variant := v }

/-- R24: the ranges of `AX` after `DECODE`, and after a `SCALE` of what `DECODE` leaves, and that the product fits in 16
signed bits, so that nothing overflows. -/
def Obligations.AxisRanges : Prop :=
  (∀ s t : State, exec .decode s = .next t →
    ∃ x y z, t.ax = axOf x y z ∧ countRange t.cfgMode x ∧ countRange t.cfgMode y ∧ countRange t.cfgMode z) ∧
  (∀ (s t : State) (x y z : Half), s.ax = axOf x y z →
    countRange s.cfgMode x → countRange s.cfgMode y → countRange s.cfgMode z → exec .scale s = .next t →
    ∃ x' y' z', t.ax = axOf x' y' z' ∧
      milliGRange t.cfgMode x' ∧ milliGRange t.cfgMode y' ∧ milliGRange t.cfgMode z' ∧
      x'.toInt = x.toInt * sensOf s.cfgMode ∧ y'.toInt = y.toInt * sensOf s.cfgMode ∧
      z'.toInt = z.toInt * sensOf s.cfgMode)

/-- R141: decode and scale composed: clear the discarded bits, then shift right arithmetically by 4 or 3; the result is a
multiple of the sensitivity, and in Normal mode 0x0030 gives 0, not 3. -/
def Obligations.ScaleOfDecode : Prop :=
  (∀ r : Half, scaleAxis .normal (decodeAxis .normal r) = (r &&& ~~~(0x003F#16)).sshiftRight 4 ∧
    (scaleAxis .normal (decodeAxis .normal r)).toInt % 4 = 0) ∧
  (∀ r : Half, scaleAxis .highResolution (decodeAxis .highResolution r) =
      (r &&& ~~~(0x000F#16)).sshiftRight 3 ∧
    (scaleAxis .highResolution (decodeAxis .highResolution r)).toInt % 2 = 0) ∧
  scaleAxis .normal (decodeAxis .normal 0x0030#16) = 0#16 ∧ (0x0030#16).sshiftRight 4 = 3#16

/-- R171, R172: `EMIT` where `AX` holds three values: the frame in registers and on the sink, in the byte order of the
variant, and nothing else changes; an `invalid` axis is a fault. -/
def Obligations.EmitResult : Prop :=
  encode .emit = 0x80000000#32 ∧
  (∀ (s : State) (x y z : Half), s.ax = #v[.val x, .val y, .val z] →
    (s.variant = .reference → exec .emit s = .next { s with
      frame := #v[.val 0xA0#8, .val (x.extractLsb' 0 8), .val (x.extractLsb' 8 8), .val (y.extractLsb' 0 8),
        .val (y.extractLsb' 8 8), .val (z.extractLsb' 0 8), .val (z.extractLsb' 8 8), .val 0xC0#8],
      history := s.history ++ [.frame [0xA0#8, x.extractLsb' 0 8, x.extractLsb' 8 8, y.extractLsb' 0 8,
        y.extractLsb' 8 8, z.extractLsb' 0 8, z.extractLsb' 8 8, 0xC0#8]] }) ∧
    (s.variant = .historical → exec .emit s = .next { s with
      frame := #v[.val 0xA0#8, .val (x.extractLsb' 8 8), .val (x.extractLsb' 0 8), .val (y.extractLsb' 8 8),
        .val (y.extractLsb' 0 8), .val (z.extractLsb' 8 8), .val (z.extractLsb' 0 8), .val 0xC0#8],
      history := s.history ++ [.frame [0xA0#8, x.extractLsb' 8 8, x.extractLsb' 0 8, y.extractLsb' 8 8,
        y.extractLsb' 0 8, z.extractLsb' 8 8, z.extractLsb' 0 8, 0xC0#8]] })) ∧
  (∀ s : State, (∃ (i : Nat) (hi : i < 3), s.ax[i] = .invalid) → exec .emit s = .fault (.invalidRead .ax))

/-- 10_state.md R23: `SETTLE`, `DECODE`, `SCALE` and `EMIT` write `SETTLED`, `AX`, `AX`, `FRAME` and the sink, and leave
every other register, flag, parameter and input as it was; only `EMIT` adds to the history, and it adds one frame. -/
def Obligations.DatapathFrame : Prop :=
  ∀ (s t : State) (i : Instr), i = .settle ∨ i = .decode ∨ i = .scale ∨ i = .emit → exec i s = .next t →
    t.st = s.st ∧ t.v = s.v ∧ t.raw = s.raw ∧ t.ts = s.ts ∧ t.nd = s.nd ∧ t.rdy = s.rdy ∧
    t.params = s.params ∧ t.initStat = s.initStat ∧ t.evtPend = s.evtPend ∧ t.raised = s.raised ∧
    t.direct = s.direct ∧ t.held = s.held ∧ t.answers = s.answers ∧ t.moves = s.moves ∧ t.draw = s.draw ∧
    (i ≠ .settle → t.settled = s.settled) ∧
    (i ≠ .decode → i ≠ .scale → t.ax = s.ax) ∧
    (i ≠ .emit → t.frame = s.frame ∧ t.history = s.history) ∧
    (i = .emit → ∃ bytes, bytes.length = 8 ∧ t.history = s.history ++ [.frame bytes])

/-! ### Readiness -/

/-- 43_readiness.md section 2 (R181, R182, R184): `WAITRDY` completes always in the Polled strategy and exactly with
`RDY = 1` in the EventDriven, and else stays pending; it writes no element of the CORE. That a reading of `RDY` which leaves
it pending is a step of the model, noted in the model's `held`, is log 6: in `S_IDLE` the sequencer then stays where it is,
and a pending direct `WAITRDY` stays on the op-word lines (log 5), where an `EVTACK` can lift the hold. -/
def Obligations.WaitrdyResult : Prop :=
  encode .waitrdy = 0x50000000#32 ∧
  ∀ s : State,
    (s.strategy = .polled ∨ s.rdy = true → exec .waitrdy s = .next { s with held := false }) ∧
    (s.strategy = .eventDriven → s.rdy = false → exec .waitrdy s = .next { s with held := true }) ∧
    (s.st = .idle → s.strategy = .eventDriven → s.rdy = false → seqStep s = .next { s with held := true }) ∧
    (s.strategy = .polled ∨ s.rdy = true →
      directStep 0x50000000#32 s = .next s.takeDirect) ∧
    (s.strategy = .eventDriven → s.rdy = false →
      directStep 0x50000000#32 s = .next { s.takeDirect with direct := some 0x50000000#32, held := true }) ∧
    (s.direct = some 0x50000000#32 → s.held = true → s.moveNow = .handler → s.strategy = .eventDriven →
      s.evtPend = true → step s = .next { s.dropMove with evtPend := false, rdy := true })

/-- R186: `RDYCLR` clears `RDY`, set or clear before, and nothing else. -/
def Obligations.RdyclrResult : Prop :=
  encode .rdyclr = 0x90000000#32 ∧ ∀ s : State, exec .rdyclr s = .next { s with rdy := false }

/-- R188: `EVTACK` where it is enabled acknowledges the source and sets `RDY` in one step and touches nothing else; it is
enabled in the EventDriven strategy with `EVT_PEND = 1` only, and else has no step. -/
def Obligations.EvtackResult : Prop :=
  encode .evtack = 0xA0000000#32 ∧
  ∀ s : State,
    (s.strategy = .eventDriven → s.evtPend = true →
      exec .evtack s = .next { s with evtPend := false, rdy := true }) ∧
    (s.strategy = .polled ∨ s.evtPend = false → ∀ t, exec .evtack s ≠ .next t)

/-- 43_readiness.md section 4 (R188): where `EVTACK` is not enabled the model refuses it by name (log 7). -/
def Obligations.EvtackNotEnabled : Prop :=
  ∀ s : State, s.strategy = .polled ∨ s.evtPend = false → exec .evtack s = .refused .handlerNotEnabled

/-- 10_state.md R29, 43_readiness.md: `WAITRDY`, `RDYCLR` and `EVTACK` leave everything but `RDY` and `EVT_PEND` as it was;
only `EVTACK` changes `EVT_PEND`, and `WAITRDY` changes neither, but notes in the model's `held` whether it is pending
(log 6). -/
def Obligations.ReadinessFrame : Prop :=
  ∀ (s t : State) (i : Instr), i = .waitrdy ∨ i = .rdyclr ∨ i = .evtack → exec i s = .next t →
    t.st = s.st ∧ t.v = s.v ∧ t.raw = s.raw ∧ t.ax = s.ax ∧ t.frame = s.frame ∧ t.ts = s.ts ∧ t.nd = s.nd ∧
    t.settled = s.settled ∧ t.params = s.params ∧ t.initStat = s.initStat ∧ t.history = s.history ∧
    t.raised = s.raised ∧ t.direct = s.direct ∧ t.answers = s.answers ∧ t.moves = s.moves ∧ t.draw = s.draw ∧
    (i ≠ .evtack → t.evtPend = s.evtPend) ∧ (i = .waitrdy → t.rdy = s.rdy) ∧ (i ≠ .waitrdy → t.held = s.held)

/-- 70_reset_and_hazards.md R243, 43_readiness.md R190: anywhere from the `WAITRDY` that released a sampling step to its
`RDYCLR`, an `EVTACK` finds `RDY = 1` and leaves it so, as every other step there does but `RDYCLR`, which clears it; then
nothing of the event is left, and `WAITRDY` is held (as a step that leaves it pending: log 6). -/
def Obligations.EventInWindowIsLost : Prop :=
  (∀ s t : State, s.Wired → s.strategy = .eventDriven → s.rdy = true → s.st.inSample = true →
    (∀ p, s.turn ≠ .reset p) → step s = .next t →
    t.strategy = .eventDriven ∧
    (s.turn = .handler → t.st = s.st ∧ t.rdy = true ∧ t.evtPend = false) ∧
    (s.turn = .trigger → t.st = s.st ∧ t.rdy = true) ∧
    (s.turn = .sequencer → s.st ≠ .done → t.st.inSample = true ∧ t.rdy = true ∧ t.evtPend = s.evtPend) ∧
    (s.turn = .sequencer → s.st = .done → t.st = .idle ∧ t.rdy = false ∧ t.evtPend = s.evtPend)) ∧
  (∀ s : State, s.strategy = .eventDriven → s.rdy = false → s.st = .idle → seqStep s = .next { s with held := true })

/-! ### The sequencer -/

/-- R145: `S_SETTLE`. -/
def Obligations.SettleState : Prop :=
  SeqState.settle.code = 0x0#4 ∧
  ∀ s : State, s.st = .settle → seqStep s = .next { s with settled := true, st := .cfg1Rd }

/-- R150: `S_IDLE`: `WAITRDY` completes when a readiness event is available, which is always so in the Polled strategy and
with `RDY = 1` in the EventDriven; nothing is recorded (the model's `held` says that nothing is pending, log 6) and
`S_STATUS` follows. -/
def Obligations.IdleState : Prop :=
  SeqState.idle.code = 0x5#4 ∧
  ∀ s : State, s.st = .idle → s.strategy = .polled ∨ s.rdy = true →
    s.issue = .waitrdy ∧ exec .waitrdy s = .next { s with held := false } ∧
      seqStep s = .next { s with held := false, st := .status }

/-- R146: `S_CFG1_RD`, every outcome of the read. -/
def Obligations.Ctrl1ReadState : Prop :=
  SeqState.cfg1Rd.code = 0x1#4 ∧
  ∀ s : State, s.st = .cfg1Rd → s.settled = true →
    (s.answerNow.status = .ok → s.answerNow.value ≠ s.target1 →
      seqStep s = .next { s.afterOkRead 0x20#8 with
        initStat := { s.initStat with c1r := .ok },
        raised := s.raised ++ [.configurationMismatch], st := .cfg1Wr }) ∧
    (s.answerNow.status = .ok → s.answerNow.value = s.target1 →
      seqStep s = .next { s.afterOkRead 0x20#8 with
        initStat := { s.initStat with c1r := .ok }, st := .cfg4Rd }) ∧
    (s.answerNow.status = .fail → s.onReadFail = .write →
      seqStep s = .next { s.afterFailedRead 0x20#8 with
        initStat := { s.initStat with c1r := .fail }, st := .cfg1Wr }) ∧
    (s.answerNow.status = .fail → s.onReadFail = .skip →
      seqStep s = .next { s.afterFailedRead 0x20#8 with
        initStat := { s.initStat with c1r := .fail }, st := .cfg4Rd })

/-- R147, R149: `S_CFG1_WR` and `S_CFG4_WR`: the target is written, the status recorded, and the next state entered
whatever the status is. -/
def Obligations.CtrlWriteStates : Prop :=
  SeqState.cfg1Wr.code = 0x2#4 ∧ SeqState.cfg4Wr.code = 0x4#4 ∧
  ∀ s : State, s.settled = true →
    (s.st = .cfg1Wr → s.answerNow.status = .ok →
      seqStep s = .next { s.afterOkWrite 0x20#8 s.target1 with
        initStat := { s.initStat with c1w := .ok }, st := .cfg4Rd }) ∧
    (s.st = .cfg1Wr → s.answerNow.status = .fail →
      seqStep s = .next { s.afterFailedWrite 0x20#8 s.target1 with
        initStat := { s.initStat with c1w := .fail }, st := .cfg4Rd }) ∧
    (s.st = .cfg4Wr → s.answerNow.status = .ok →
      seqStep s = .next { s.afterOkWrite 0x23#8 s.target4 with
        initStat := { s.initStat with c4w := .ok }, st := .idle }) ∧
    (s.st = .cfg4Wr → s.answerNow.status = .fail →
      seqStep s = .next { s.afterFailedWrite 0x23#8 s.target4 with
        initStat := { s.initStat with c4w := .fail }, st := .idle })

/-- R148: `S_CFG4_RD`, every outcome of the read. -/
def Obligations.Ctrl4ReadState : Prop :=
  SeqState.cfg4Rd.code = 0x3#4 ∧
  ∀ s : State, s.st = .cfg4Rd → s.settled = true →
    (s.answerNow.status = .ok → s.answerNow.value ≠ s.target4 →
      seqStep s = .next { s.afterOkRead 0x23#8 with
        initStat := { s.initStat with c4r := .ok },
        raised := s.raised ++ [.configurationMismatch], st := .cfg4Wr }) ∧
    (s.answerNow.status = .ok → s.answerNow.value = s.target4 →
      seqStep s = .next { s.afterOkRead 0x23#8 with
        initStat := { s.initStat with c4r := .ok }, st := .idle }) ∧
    (s.answerNow.status = .fail → s.onReadFail = .write →
      seqStep s = .next { s.afterFailedRead 0x23#8 with
        initStat := { s.initStat with c4r := .fail }, st := .cfg4Wr }) ∧
    (s.answerNow.status = .fail → s.onReadFail = .skip →
      seqStep s = .next { s.afterFailedRead 0x23#8 with
        initStat := { s.initStat with c4r := .fail }, st := .idle })

/-- R151: `S_STATUS`: a failed read ends the step and leaves `ND` as it was; else `ND` is bit 3 of the value, `RDY` takes
it in the Polled strategy only, and the step goes on to the burst or ends with `NoNewData`. -/
def Obligations.StatusState : Prop :=
  SeqState.status.code = 0x6#4 ∧
  ∀ s : State, s.st = .status → s.settled = true →
    (s.answerNow.status = .fail →
      seqStep s = .next { s.afterFailedRead 0x27#8 with st := .done }) ∧
    (s.answerNow.status = .ok → s.answerNow.value.getLsbD 3 = true →
      seqStep s = .next { s.afterOkRead 0x27#8 with
        nd := true, rdy := (if s.strategy = .polled then true else s.rdy), st := .burst }) ∧
    (s.answerNow.status = .ok → s.answerNow.value.getLsbD 3 = false →
      seqStep s = .next { s.afterOkRead 0x27#8 with
        nd := false, rdy := (if s.strategy = .polled then false else s.rdy),
        raised := s.raised ++ [.noNewData], st := .done })

/-- R152: `S_BURST`: one burst of six bytes from 0x28, answered with at most six (R64); a failed or short one ends the
step, a complete one fills `RAW`. -/
def Obligations.BurstState : Prop :=
  SeqState.burst.code = 0x7#4 ∧
  ∀ s : State, s.st = .burst → s.settled = true →
    (s.answerNow.bytes.length ≤ 6 → s.answerNow.status = .fail ∨ s.answerNow.bytes.length < 6 →
      seqStep s = .next { s with
        ts := .fail, raw := #v[.invalid, .invalid, .invalid, .invalid, .invalid, .invalid],
        history := s.history ++ [.readN 0x18#7 0x28#8 6#8 s.answerNow.status s.answerNow.bytes],
        raised := s.raised ++ [.transportFailure],
        answers := s.answers.tail, draw := s.draw + 1, st := .done }) ∧
    (∀ b : Vector Byte 6, s.answerNow.status = .ok → s.answerNow.bytes = b.toList →
      seqStep s = .next { s with
        ts := .ok, raw := b.map Datum.val,
        history := s.history ++ [.readN 0x18#7 0x28#8 6#8 .ok b.toList],
        answers := s.answers.tail, draw := s.draw + 1, st := .decode })

/-- R153, R154, R155: the states of the datapath: `DECODE` then `SCALE` (REFERENCE) or `EMIT` (HISTORICAL), `SCALE` then
`EMIT`, `EMIT` then `S_DONE`, each with what its operation does. -/
def Obligations.DatapathStates : Prop :=
  SeqState.decode.code = 0x8#4 ∧ SeqState.scale.code = 0x9#4 ∧ SeqState.emit.code = 0xA#4 ∧
  ∀ s t : State,
    (s.st = .decode → exec .decode s = .next t → s.variant = .reference → seqStep s = .next { t with st := .scale }) ∧
    (s.st = .decode → exec .decode s = .next t → s.variant = .historical → seqStep s = .next { t with st := .emit }) ∧
    (s.st = .scale → exec .scale s = .next t → seqStep s = .next { t with st := .emit }) ∧
    (s.st = .emit → exec .emit s = .next t → seqStep s = .next { t with st := .done })

/-- R156: `S_DONE`. -/
def Obligations.DoneState : Prop :=
  SeqState.done.code = 0xB#4 ∧
  ∀ s : State, s.st = .done → seqStep s = .next { s with rdy := false, st := .idle }

/-- R159 (that each call returns is log 21): `INIT` always ends in `S_IDLE`, whatever the transport answers, with the delay elapsed, after 2 to 4 bus
transactions and no frame: the read of `CTRL1`, at most one write of its target, the read of `CTRL4`, at most one write of
its target, each write directly after its own read. -/
def Obligations.InitPath : Prop :=
  ∀ s : State, s.st = .settle →
    ∃ t st1 v1 st4 v4 w1 w4, runPseudo .init s = .next t ∧ t.st = .idle ∧ t.settled = true ∧
      t.history = s.history ++ [.read1 0x18#7 0x20#8 st1 v1] ++ w1 ++ [.read1 0x18#7 0x23#8 st4 v4] ++ w4 ∧
      (w1 = [] ∨ ∃ st, w1 = [.write1 0x18#7 0x20#8 s.target1 st]) ∧
      (w4 = [] ∨ ∃ st, w4 = [.write1 0x18#7 0x23#8 s.target4 st])

/-- 41_controller.md section 3 (R134, R158): for a control register whose read succeeds, zero writes if the value is the
target, exactly one write, of the target, if it is not; for one whose read fails, one write or none by
`CFG_ON_READ_FAIL`. -/
def Obligations.ConfigureIdempotent : Prop :=
  ∀ s : State, s.settled = true →
    (s.st = .cfg1Rd → ∃ t, runPseudo .cfgreg1 s = .next t ∧ t.st = .cfg4Rd ∧
      (s.answerNow.status = .ok → s.answerNow.value = s.target1 →
        t.history = s.history ++ [.read1 0x18#7 0x20#8 .ok (some s.target1)]) ∧
      (s.answerNow.status = .ok → s.answerNow.value ≠ s.target1 →
        ∃ st, t.history = s.history ++
          [.read1 0x18#7 0x20#8 .ok (some s.answerNow.value), .write1 0x18#7 0x20#8 s.target1 st]) ∧
      (s.answerNow.status = .fail → s.onReadFail = .skip →
        t.history = s.history ++ [.read1 0x18#7 0x20#8 .fail none]) ∧
      (s.answerNow.status = .fail → s.onReadFail = .write →
        ∃ st, t.history = s.history ++
          [.read1 0x18#7 0x20#8 .fail none, .write1 0x18#7 0x20#8 s.target1 st])) ∧
    (s.st = .cfg4Rd → ∃ t, runPseudo .cfgreg4 s = .next t ∧ t.st = .idle ∧
      (s.answerNow.status = .ok → s.answerNow.value = s.target4 →
        t.history = s.history ++ [.read1 0x18#7 0x23#8 .ok (some s.target4)]) ∧
      (s.answerNow.status = .ok → s.answerNow.value ≠ s.target4 →
        ∃ st, t.history = s.history ++
          [.read1 0x18#7 0x23#8 .ok (some s.answerNow.value), .write1 0x18#7 0x23#8 s.target4 st]) ∧
      (s.answerNow.status = .fail → s.onReadFail = .skip →
        t.history = s.history ++ [.read1 0x18#7 0x23#8 .fail none]) ∧
      (s.answerNow.status = .fail → s.onReadFail = .write →
        ∃ st, t.history = s.history ++
          [.read1 0x18#7 0x23#8 .fail none, .write1 0x18#7 0x23#8 s.target4 st]))

/-- R161 (that each call returns is log 21, and that an answer of more than six bytes is its first six is log 16): the
four shapes of a sampling step, with the bus transactions and the frames each makes; the second answer is
the one after the status read's. -/
def Obligations.SampleShapes : Prop :=
  ∀ s : State, s.st = .status → s.settled = true →
    ∃ t, runPseudo .sample s = .next t ∧ t.st = .idle ∧ t.rdy = false ∧
      (s.answerNow.status = .fail →
        t.history = s.history ++ [.read1 0x18#7 0x27#8 .fail none]) ∧
      (s.answerNow.status = .ok → s.answerNow.value.getLsbD 3 = false →
        t.history = s.history ++ [.read1 0x18#7 0x27#8 .ok (some s.answerNow.value)]) ∧
      (s.answerNow.status = .ok → s.answerNow.value.getLsbD 3 = true →
        (s.dropAnswer.answerNow.status = .fail ∨ s.dropAnswer.answerNow.bytes.length < 6 →
          t.history = s.history ++ [.read1 0x18#7 0x27#8 .ok (some s.answerNow.value),
            .readN 0x18#7 0x28#8 6#8 s.dropAnswer.answerNow.status (s.dropAnswer.answerNow.bytes.take 6)]) ∧
        (∀ b : Vector Byte 6, s.dropAnswer.answerNow.status = .ok →
          s.dropAnswer.answerNow.bytes.take 6 = b.toList →
          t.history = s.history ++ [.read1 0x18#7 0x27#8 .ok (some s.answerNow.value),
            .readN 0x18#7 0x28#8 6#8 .ok b.toList, .frame (frameOfSample s.variant s.cfgMode b)]))

/-! ### The step and reset -/

/-- A step runs the decoded operation: of the direct op word, with no record of `SEQ` after it, kept on the lines while it
is pending, refused where it is illegal (log 5, log 6); of the state's op word, with `SEQ`'s record after it; of `EVTACK` on
the handler's turn; a trigger and a reset run none. -/
def Obligations.StepRunsDecodedOperation : Prop :=
  ∀ (s : State) (i : Instr),
    (∀ w, s.direct = some w → s.held = false → s.turn = .direct w) ∧
    (∀ w, s.direct = some w → s.held = false → decode w = .ok i → i ≠ .waitrdy →
      step s = exec i { s with direct := none }) ∧
    (∀ w, s.turn = .direct w → decode w = .ok i → step s = andThen (exec i s.takeDirect) (holdDirect w)) ∧
    (∀ w e, s.turn = .direct w → decode w = .error e → step s = .refused (.illegalOpWord e)) ∧
    (s.turn = .sequencer → decode s.dropMove.opWord = .ok i →
      step s = andThen (exec i s.dropMove) complete) ∧
    (s.turn = .handler → decode handlerWord = .ok i → step s = exec i s.dropMove) ∧
    (s.turn = .trigger → step s = .next { s.dropMove with evtPend := true }) ∧
    (∀ p, s.turn = .reset p → step s = .next (s.dropMove.restart p))

/-- 00_scope.md R6, 60_exceptions.md R212: on a machine whose op-word lines are its own, the handler takes exactly the
turns offered to it while `EVTACK` is enabled; the model gives the others to `SEQ` (log 9). -/
def Obligations.HandlerTurns : Prop :=
  ∀ s : State, s.direct = none →
    (s.turn = .handler ↔ s.moveNow = .handler ∧ s.strategy = .eventDriven ∧ s.evtPend = true) ∧
    (s.turn = .sequencer ↔ s.moveNow = .sequencer ∨
      s.moveNow = .handler ∧ (s.strategy = .polled ∨ s.evtPend = false)) ∧
    (s.turn = .trigger ↔ s.moveNow = .trigger) ∧
    (∀ p, s.turn = .reset p ↔ s.moveNow = .reset p)

/-- R41: every element of the CORE's state after reset; the parameters are applied and the histories are empty. -/
def Obligations.ResetValues : Prop :=
  ∀ (p : Params) (t : State), t = State.resetWith p →
    t.st = .settle ∧ t.ts = .ok ∧ t.nd = false ∧ t.rdy = false ∧ t.settled = false ∧
    t.initStat.toByte = 0x00#8 ∧ t.cfgMode = p.mode ∧ t.cfgFsr = p.fsr ∧ t.strategy = p.strategy ∧
    t.variant = p.variant ∧ t.v = .invalid ∧
    (∀ (i : Nat) (hi : i < 6), t.raw[i] = .invalid) ∧ (∀ (i : Nat) (hi : i < 3), t.ax[i] = .invalid) ∧
    (∀ (i : Nat) (hi : i < 8), t.frame[i] = .invalid) ∧ t.evtPend = false ∧ t.history = []

/-- 70_reset_and_hazards.md section 1 (R230): a later reset, of a machine whose op-word lines are its own, leaves
what the first reset leaves with the parameters applied then, but for the inputs still to come, which are the model's own
fields; that it empties the histories and clears `EVT_PEND` is the model's reading (log 10). The reset state's `VARIANT`
is the default and its other parameters are open (log 4). -/
def Obligations.RestartResets : Prop :=
  (∀ (s : State) (p : Params), s.direct = none → s.moveNow = .reset p →
    step s = .next { State.resetWith p with
      answers := s.answers, moves := s.moves.tail, draw := s.draw + 1 }) ∧
  (∃ p, State.reset = State.resetWith p ∧ p.variant = .reference)

/-- 10_state.md sections 5 and 9 (R31 to R33, R35): no step but a reset changes a parameter. -/
def Obligations.ParametersConstant : Prop :=
  ∀ s t : State, step s = .next t → (∀ p, s.turn ≠ .reset p) → t.params = s.params

/-- 10_state.md section 3 (R25): no step but a reset leaves the set `S_IDLE` to `S_DONE`. -/
def Obligations.SamplingLoopNeverLeft : Prop :=
  ∀ s t : State, step s = .next t → (∀ p, s.turn ≠ .reset p) → s.st.inInit = false → t.st.inInit = false

/-! ### Invariants -/

/-- Every reset state has every property the statements below keep, whatever its parameters (R41). -/
def Obligations.InvariantsAtReset : Prop :=
  ∀ p : Params,
    (State.resetWith p).Wired ∧ (State.resetWith p).Ready ∧ (State.resetWith p).FramesShaped ∧
    (State.resetWith p).FramesFromBursts ∧ (State.resetWith p).SampleInFlight ∧
    (State.resetWith p).BurstsAfterStatus ∧ (State.resetWith p).RequestsWired ∧
    (State.resetWith p).WritesOnce ∧ (State.resetWith p).PolledRdyLocal ∧
    (State.resetWith p).AxRanged ∧ (State.resetWith p).InitRecorded

/-- 60_exceptions.md R204, 10_state.md R22, 70_reset_and_hazards.md R240: the wired machine never stops: whatever the
transport answers and whoever moves, a step answers a next state, from which the same holds. That the sequencer has a step
while `WAITRDY` is held is log 6, that a turn offered to a handler that is not enabled is the sequencer's is log 9, and that
every call returns is log 21. -/
def Obligations.WiredMachineNeverStops : Prop :=
  ∀ s : State, s.Wired → s.Ready → ∃ t, step s = .next t ∧ t.Wired ∧ t.Ready

/-- 42_frame_emitter.md R175: every step keeps every frame of the history 8 bytes, header first, footer last. -/
def Obligations.FramesShapedKept : Prop :=
  ∀ s t : State, s.FramesShaped → step s = .next t → t.FramesShaped

/-- 42_frame_emitter.md R170, 41_controller.md R161: on the wired machine every frame stands directly after a completed
burst of the outputs and is the frame of exactly those six bytes. -/
def Obligations.FramesFromBurstsKept : Prop :=
  ∀ s t : State, s.Wired → s.FramesFromBursts → s.SampleInFlight → step s = .next t →
    t.FramesFromBursts ∧ t.SampleInFlight

/-- 70_reset_and_hazards.md R242: on the wired machine every burst stands directly after a status read, answered with
`OK`, whose new-data bit is set. -/
def Obligations.BurstsAfterStatusKept : Prop :=
  ∀ s t : State, s.Wired → s.BurstsAfterStatus → step s = .next t → t.BurstsAfterStatus

/-- 20_memory.md R50, R53: the wired machine addresses one device and no register but those of the map, and writes only
the targets, only to the control registers. -/
def Obligations.RequestsWiredKept : Prop :=
  ∀ s t : State, s.Wired → s.RequestsWired → step s = .next t → t.RequestsWired

/-- 41_controller.md R134, 20_memory.md R68: the wired machine writes each control register at most once per reset. -/
def Obligations.WritesOnceKept : Prop :=
  ∀ s t : State, s.Wired → s.WritesOnce → step s = .next t → t.WritesOnce

/-- 43_readiness.md R183: in the Polled strategy `RDY` is never 1 in `S_IDLE`. -/
def Obligations.PolledRdyKept : Prop :=
  ∀ s t : State, s.PolledRdyLocal → step s = .next t → t.PolledRdyLocal

/-- 10_state.md R24, 42_frame_emitter.md R177: on the wired machine `AX` lies in the stated range when it is scaled and
when it is emitted. -/
def Obligations.AxRangedKept : Prop :=
  ∀ s t : State, s.Wired → s.AxRanged → step s = .next t → t.AxRanged

/-- 10_state.md R34: the statuses of the two reads of the initialization protocol are recorded once it has passed them. -/
def Obligations.InitRecordedKept : Prop :=
  ∀ s t : State, s.InitRecorded → step s = .next t → t.InitRecorded
end

