-- ==== Sys2Proof/Laws/Encoding.lean ====
section
/-! SUPPORT. The fields of an encoded op word, and what the wired op words are read back as (30_encoding.md R83, R84, R87). -/

namespace Sys2Proof

section fields
variable (op : BitVec 4) (dev : DevAddr) (reg : RegAddr) (arg : Byte)

@[simp] theorem op_encodeB : OpWord.op (encodeB op dev reg arg) = op := by
  ext i hi; interval_cases i <;> simp [OpWord.op, encodeB]

@[simp] theorem z5_encodeB : OpWord.z5 (encodeB op dev reg arg) = 0#5 := by
  ext i hi; interval_cases i <;> simp [OpWord.z5, encodeB]

@[simp] theorem dev_encodeB : OpWord.dev (encodeB op dev reg arg) = dev := by
  ext i hi; interval_cases i <;> simp [OpWord.dev, encodeB]

@[simp] theorem reg_encodeB : OpWord.reg (encodeB op dev reg arg) = reg := by
  ext i hi; interval_cases i <;> simp [OpWord.reg, encodeB]

@[simp] theorem arg_encodeB : OpWord.arg (encodeB op dev reg arg) = arg := by
  ext i hi; interval_cases i <;> simp [OpWord.arg, encodeB]

end fields

namespace Machine

/-- A write's op word is read back as that write, whatever the target. -/
theorem decode_encode_wrreg (dev : DevAddr) (reg : RegAddr) (value : Byte) :
    decode (encode (.wrreg dev reg value)) = .ok (.wrreg dev reg value) := by
  simp [decode, encode, decodeWrreg]

/-- The op word `SEQ` issues is decoded as the operation its state issues (R87). -/
theorem runWord_opWord (s t : State) : runWord s.opWord t = exec s.issue t := by
  have h : decode s.opWord = .ok s.issue := by
    unfold State.opWord State.issue
    cases s.st
    case cfg1Wr => exact decode_encode_wrreg _ _ _
    case cfg4Wr => exact decode_encode_wrreg _ _ _
    all_goals (dsimp only; decide)
  simp [runWord, h]

/-- One step of `SEQ`: the operation its state issues, then the record of that state (R25). -/
theorem seqStep_eq (s : State) : seqStep s = andThen (exec s.issue s) complete := by
  rw [seqStep, runWord_opWord]

/-- The one step of `HND` is `EVTACK` (R188). -/
theorem handlerStep_eq (s : State) : handlerStep s = execEvtack s := by
  have h : decode handlerWord = .ok .evtack := by decide
  simp [handlerStep, runWord, h, exec]

end Machine

end Sys2Proof
end

