-- ==== Sys2Proof/Laws/State.lean ====
section
/-! SUPPORT. One lemma per field per update of the state: what the named updates of Machine/Ops.lean and
Machine/Sequencer.lean write, and that they leave every other field as it was. -/

namespace Sys2Proof.Machine

/-! ### dropAnswer -/

@[simp] theorem State.dropAnswer_st (s : State) : s.dropAnswer.st = s.st := rfl
@[simp] theorem State.dropAnswer_v (s : State) : s.dropAnswer.v = s.v := rfl
@[simp] theorem State.dropAnswer_raw (s : State) : s.dropAnswer.raw = s.raw := rfl
@[simp] theorem State.dropAnswer_ax (s : State) : s.dropAnswer.ax = s.ax := rfl
@[simp] theorem State.dropAnswer_frame (s : State) : s.dropAnswer.frame = s.frame := rfl
@[simp] theorem State.dropAnswer_ts (s : State) : s.dropAnswer.ts = s.ts := rfl
@[simp] theorem State.dropAnswer_nd (s : State) : s.dropAnswer.nd = s.nd := rfl
@[simp] theorem State.dropAnswer_rdy (s : State) : s.dropAnswer.rdy = s.rdy := rfl
@[simp] theorem State.dropAnswer_settled (s : State) : s.dropAnswer.settled = s.settled := rfl
@[simp] theorem State.dropAnswer_cfgMode (s : State) : s.dropAnswer.cfgMode = s.cfgMode := rfl
@[simp] theorem State.dropAnswer_cfgFsr (s : State) : s.dropAnswer.cfgFsr = s.cfgFsr := rfl
@[simp] theorem State.dropAnswer_strategy (s : State) : s.dropAnswer.strategy = s.strategy := rfl
@[simp] theorem State.dropAnswer_variant (s : State) : s.dropAnswer.variant = s.variant := rfl
@[simp] theorem State.dropAnswer_ctrl1Target (s : State) : s.dropAnswer.ctrl1Target = s.ctrl1Target := rfl
@[simp] theorem State.dropAnswer_ctrl4Target (s : State) : s.dropAnswer.ctrl4Target = s.ctrl4Target := rfl
@[simp] theorem State.dropAnswer_onReadFail (s : State) : s.dropAnswer.onReadFail = s.onReadFail := rfl
@[simp] theorem State.dropAnswer_initStat (s : State) : s.dropAnswer.initStat = s.initStat := rfl
@[simp] theorem State.dropAnswer_evtPend (s : State) : s.dropAnswer.evtPend = s.evtPend := rfl
@[simp] theorem State.dropAnswer_history (s : State) : s.dropAnswer.history = s.history := rfl
@[simp] theorem State.dropAnswer_raised (s : State) : s.dropAnswer.raised = s.raised := rfl
@[simp] theorem State.dropAnswer_held (s : State) : s.dropAnswer.held = s.held := rfl
@[simp] theorem State.dropAnswer_direct (s : State) : s.dropAnswer.direct = s.direct := rfl
@[simp] theorem State.dropAnswer_answers (s : State) : s.dropAnswer.answers = s.answers.tail := rfl
@[simp] theorem State.dropAnswer_moves (s : State) : s.dropAnswer.moves = s.moves := rfl
@[simp] theorem State.dropAnswer_draw (s : State) : s.dropAnswer.draw = s.draw + 1 := rfl

/-! ### dropMove -/

@[simp] theorem State.dropMove_st (s : State) : s.dropMove.st = s.st := rfl
@[simp] theorem State.dropMove_v (s : State) : s.dropMove.v = s.v := rfl
@[simp] theorem State.dropMove_raw (s : State) : s.dropMove.raw = s.raw := rfl
@[simp] theorem State.dropMove_ax (s : State) : s.dropMove.ax = s.ax := rfl
@[simp] theorem State.dropMove_frame (s : State) : s.dropMove.frame = s.frame := rfl
@[simp] theorem State.dropMove_ts (s : State) : s.dropMove.ts = s.ts := rfl
@[simp] theorem State.dropMove_nd (s : State) : s.dropMove.nd = s.nd := rfl
@[simp] theorem State.dropMove_rdy (s : State) : s.dropMove.rdy = s.rdy := rfl
@[simp] theorem State.dropMove_settled (s : State) : s.dropMove.settled = s.settled := rfl
@[simp] theorem State.dropMove_cfgMode (s : State) : s.dropMove.cfgMode = s.cfgMode := rfl
@[simp] theorem State.dropMove_cfgFsr (s : State) : s.dropMove.cfgFsr = s.cfgFsr := rfl
@[simp] theorem State.dropMove_strategy (s : State) : s.dropMove.strategy = s.strategy := rfl
@[simp] theorem State.dropMove_variant (s : State) : s.dropMove.variant = s.variant := rfl
@[simp] theorem State.dropMove_ctrl1Target (s : State) : s.dropMove.ctrl1Target = s.ctrl1Target := rfl
@[simp] theorem State.dropMove_ctrl4Target (s : State) : s.dropMove.ctrl4Target = s.ctrl4Target := rfl
@[simp] theorem State.dropMove_onReadFail (s : State) : s.dropMove.onReadFail = s.onReadFail := rfl
@[simp] theorem State.dropMove_initStat (s : State) : s.dropMove.initStat = s.initStat := rfl
@[simp] theorem State.dropMove_evtPend (s : State) : s.dropMove.evtPend = s.evtPend := rfl
@[simp] theorem State.dropMove_history (s : State) : s.dropMove.history = s.history := rfl
@[simp] theorem State.dropMove_raised (s : State) : s.dropMove.raised = s.raised := rfl
@[simp] theorem State.dropMove_held (s : State) : s.dropMove.held = s.held := rfl
@[simp] theorem State.dropMove_direct (s : State) : s.dropMove.direct = s.direct := rfl
@[simp] theorem State.dropMove_answers (s : State) : s.dropMove.answers = s.answers := rfl
@[simp] theorem State.dropMove_moves (s : State) : s.dropMove.moves = s.moves.tail := rfl
@[simp] theorem State.dropMove_draw (s : State) : s.dropMove.draw = s.draw + 1 := rfl

/-! ### record -/

@[simp] theorem State.record_st (s : State) (e : Event) : (s.record e).st = s.st := rfl
@[simp] theorem State.record_v (s : State) (e : Event) : (s.record e).v = s.v := rfl
@[simp] theorem State.record_raw (s : State) (e : Event) : (s.record e).raw = s.raw := rfl
@[simp] theorem State.record_ax (s : State) (e : Event) : (s.record e).ax = s.ax := rfl
@[simp] theorem State.record_frame (s : State) (e : Event) : (s.record e).frame = s.frame := rfl
@[simp] theorem State.record_ts (s : State) (e : Event) : (s.record e).ts = s.ts := rfl
@[simp] theorem State.record_nd (s : State) (e : Event) : (s.record e).nd = s.nd := rfl
@[simp] theorem State.record_rdy (s : State) (e : Event) : (s.record e).rdy = s.rdy := rfl
@[simp] theorem State.record_settled (s : State) (e : Event) : (s.record e).settled = s.settled := rfl
@[simp] theorem State.record_cfgMode (s : State) (e : Event) : (s.record e).cfgMode = s.cfgMode := rfl
@[simp] theorem State.record_cfgFsr (s : State) (e : Event) : (s.record e).cfgFsr = s.cfgFsr := rfl
@[simp] theorem State.record_strategy (s : State) (e : Event) : (s.record e).strategy = s.strategy := rfl
@[simp] theorem State.record_variant (s : State) (e : Event) : (s.record e).variant = s.variant := rfl
@[simp] theorem State.record_ctrl1Target (s : State) (e : Event) : (s.record e).ctrl1Target = s.ctrl1Target := rfl
@[simp] theorem State.record_ctrl4Target (s : State) (e : Event) : (s.record e).ctrl4Target = s.ctrl4Target := rfl
@[simp] theorem State.record_onReadFail (s : State) (e : Event) : (s.record e).onReadFail = s.onReadFail := rfl
@[simp] theorem State.record_initStat (s : State) (e : Event) : (s.record e).initStat = s.initStat := rfl
@[simp] theorem State.record_evtPend (s : State) (e : Event) : (s.record e).evtPend = s.evtPend := rfl
@[simp] theorem State.record_history (s : State) (e : Event) : (s.record e).history = s.history ++ [e] := rfl
@[simp] theorem State.record_raised (s : State) (e : Event) : (s.record e).raised = s.raised := rfl
@[simp] theorem State.record_held (s : State) (e : Event) : (s.record e).held = s.held := rfl
@[simp] theorem State.record_direct (s : State) (e : Event) : (s.record e).direct = s.direct := rfl
@[simp] theorem State.record_answers (s : State) (e : Event) : (s.record e).answers = s.answers := rfl
@[simp] theorem State.record_moves (s : State) (e : Event) : (s.record e).moves = s.moves := rfl
@[simp] theorem State.record_draw (s : State) (e : Event) : (s.record e).draw = s.draw := rfl

/-! ### raise -/

@[simp] theorem State.raise_st (s : State) (c : Condition) : (s.raise c).st = s.st := rfl
@[simp] theorem State.raise_v (s : State) (c : Condition) : (s.raise c).v = s.v := rfl
@[simp] theorem State.raise_raw (s : State) (c : Condition) : (s.raise c).raw = s.raw := rfl
@[simp] theorem State.raise_ax (s : State) (c : Condition) : (s.raise c).ax = s.ax := rfl
@[simp] theorem State.raise_frame (s : State) (c : Condition) : (s.raise c).frame = s.frame := rfl
@[simp] theorem State.raise_ts (s : State) (c : Condition) : (s.raise c).ts = s.ts := rfl
@[simp] theorem State.raise_nd (s : State) (c : Condition) : (s.raise c).nd = s.nd := rfl
@[simp] theorem State.raise_rdy (s : State) (c : Condition) : (s.raise c).rdy = s.rdy := rfl
@[simp] theorem State.raise_settled (s : State) (c : Condition) : (s.raise c).settled = s.settled := rfl
@[simp] theorem State.raise_cfgMode (s : State) (c : Condition) : (s.raise c).cfgMode = s.cfgMode := rfl
@[simp] theorem State.raise_cfgFsr (s : State) (c : Condition) : (s.raise c).cfgFsr = s.cfgFsr := rfl
@[simp] theorem State.raise_strategy (s : State) (c : Condition) : (s.raise c).strategy = s.strategy := rfl
@[simp] theorem State.raise_variant (s : State) (c : Condition) : (s.raise c).variant = s.variant := rfl
@[simp] theorem State.raise_ctrl1Target (s : State) (c : Condition) : (s.raise c).ctrl1Target = s.ctrl1Target := rfl
@[simp] theorem State.raise_ctrl4Target (s : State) (c : Condition) : (s.raise c).ctrl4Target = s.ctrl4Target := rfl
@[simp] theorem State.raise_onReadFail (s : State) (c : Condition) : (s.raise c).onReadFail = s.onReadFail := rfl
@[simp] theorem State.raise_initStat (s : State) (c : Condition) : (s.raise c).initStat = s.initStat := rfl
@[simp] theorem State.raise_evtPend (s : State) (c : Condition) : (s.raise c).evtPend = s.evtPend := rfl
@[simp] theorem State.raise_history (s : State) (c : Condition) : (s.raise c).history = s.history := rfl
@[simp] theorem State.raise_raised (s : State) (c : Condition) : (s.raise c).raised = s.raised ++ [c] := rfl
@[simp] theorem State.raise_held (s : State) (c : Condition) : (s.raise c).held = s.held := rfl
@[simp] theorem State.raise_direct (s : State) (c : Condition) : (s.raise c).direct = s.direct := rfl
@[simp] theorem State.raise_answers (s : State) (c : Condition) : (s.raise c).answers = s.answers := rfl
@[simp] theorem State.raise_moves (s : State) (c : Condition) : (s.raise c).moves = s.moves := rfl
@[simp] theorem State.raise_draw (s : State) (c : Condition) : (s.raise c).draw = s.draw := rfl

/-! ### sinkWrite -/

@[simp] theorem State.sinkWrite_st (s : State) (b : List Byte) : (s.sinkWrite b).st = s.st := rfl
@[simp] theorem State.sinkWrite_v (s : State) (b : List Byte) : (s.sinkWrite b).v = s.v := rfl
@[simp] theorem State.sinkWrite_raw (s : State) (b : List Byte) : (s.sinkWrite b).raw = s.raw := rfl
@[simp] theorem State.sinkWrite_ax (s : State) (b : List Byte) : (s.sinkWrite b).ax = s.ax := rfl
@[simp] theorem State.sinkWrite_frame (s : State) (b : List Byte) : (s.sinkWrite b).frame = s.frame := rfl
@[simp] theorem State.sinkWrite_ts (s : State) (b : List Byte) : (s.sinkWrite b).ts = s.ts := rfl
@[simp] theorem State.sinkWrite_nd (s : State) (b : List Byte) : (s.sinkWrite b).nd = s.nd := rfl
@[simp] theorem State.sinkWrite_rdy (s : State) (b : List Byte) : (s.sinkWrite b).rdy = s.rdy := rfl
@[simp] theorem State.sinkWrite_settled (s : State) (b : List Byte) : (s.sinkWrite b).settled = s.settled := rfl
@[simp] theorem State.sinkWrite_cfgMode (s : State) (b : List Byte) : (s.sinkWrite b).cfgMode = s.cfgMode := rfl
@[simp] theorem State.sinkWrite_cfgFsr (s : State) (b : List Byte) : (s.sinkWrite b).cfgFsr = s.cfgFsr := rfl
@[simp] theorem State.sinkWrite_strategy (s : State) (b : List Byte) : (s.sinkWrite b).strategy = s.strategy := rfl
@[simp] theorem State.sinkWrite_variant (s : State) (b : List Byte) : (s.sinkWrite b).variant = s.variant := rfl
@[simp] theorem State.sinkWrite_ctrl1Target (s : State) (b : List Byte) : (s.sinkWrite b).ctrl1Target = s.ctrl1Target := rfl
@[simp] theorem State.sinkWrite_ctrl4Target (s : State) (b : List Byte) : (s.sinkWrite b).ctrl4Target = s.ctrl4Target := rfl
@[simp] theorem State.sinkWrite_onReadFail (s : State) (b : List Byte) : (s.sinkWrite b).onReadFail = s.onReadFail := rfl
@[simp] theorem State.sinkWrite_initStat (s : State) (b : List Byte) : (s.sinkWrite b).initStat = s.initStat := rfl
@[simp] theorem State.sinkWrite_evtPend (s : State) (b : List Byte) : (s.sinkWrite b).evtPend = s.evtPend := rfl
@[simp] theorem State.sinkWrite_history (s : State) (b : List Byte) : (s.sinkWrite b).history = s.history ++ [.frame b] := rfl
@[simp] theorem State.sinkWrite_raised (s : State) (b : List Byte) : (s.sinkWrite b).raised = s.raised := rfl
@[simp] theorem State.sinkWrite_held (s : State) (b : List Byte) : (s.sinkWrite b).held = s.held := rfl
@[simp] theorem State.sinkWrite_direct (s : State) (b : List Byte) : (s.sinkWrite b).direct = s.direct := rfl
@[simp] theorem State.sinkWrite_answers (s : State) (b : List Byte) : (s.sinkWrite b).answers = s.answers := rfl
@[simp] theorem State.sinkWrite_moves (s : State) (b : List Byte) : (s.sinkWrite b).moves = s.moves := rfl
@[simp] theorem State.sinkWrite_draw (s : State) (b : List Byte) : (s.sinkWrite b).draw = s.draw := rfl

/-! ### evtAck -/

@[simp] theorem State.evtAck_st (s : State) : s.evtAck.st = s.st := rfl
@[simp] theorem State.evtAck_v (s : State) : s.evtAck.v = s.v := rfl
@[simp] theorem State.evtAck_raw (s : State) : s.evtAck.raw = s.raw := rfl
@[simp] theorem State.evtAck_ax (s : State) : s.evtAck.ax = s.ax := rfl
@[simp] theorem State.evtAck_frame (s : State) : s.evtAck.frame = s.frame := rfl
@[simp] theorem State.evtAck_ts (s : State) : s.evtAck.ts = s.ts := rfl
@[simp] theorem State.evtAck_nd (s : State) : s.evtAck.nd = s.nd := rfl
@[simp] theorem State.evtAck_rdy (s : State) : s.evtAck.rdy = s.rdy := rfl
@[simp] theorem State.evtAck_settled (s : State) : s.evtAck.settled = s.settled := rfl
@[simp] theorem State.evtAck_cfgMode (s : State) : s.evtAck.cfgMode = s.cfgMode := rfl
@[simp] theorem State.evtAck_cfgFsr (s : State) : s.evtAck.cfgFsr = s.cfgFsr := rfl
@[simp] theorem State.evtAck_strategy (s : State) : s.evtAck.strategy = s.strategy := rfl
@[simp] theorem State.evtAck_variant (s : State) : s.evtAck.variant = s.variant := rfl
@[simp] theorem State.evtAck_ctrl1Target (s : State) : s.evtAck.ctrl1Target = s.ctrl1Target := rfl
@[simp] theorem State.evtAck_ctrl4Target (s : State) : s.evtAck.ctrl4Target = s.ctrl4Target := rfl
@[simp] theorem State.evtAck_onReadFail (s : State) : s.evtAck.onReadFail = s.onReadFail := rfl
@[simp] theorem State.evtAck_initStat (s : State) : s.evtAck.initStat = s.initStat := rfl
@[simp] theorem State.evtAck_evtPend (s : State) : s.evtAck.evtPend = false := rfl
@[simp] theorem State.evtAck_history (s : State) : s.evtAck.history = s.history := rfl
@[simp] theorem State.evtAck_raised (s : State) : s.evtAck.raised = s.raised := rfl
@[simp] theorem State.evtAck_held (s : State) : s.evtAck.held = s.held := rfl
@[simp] theorem State.evtAck_direct (s : State) : s.evtAck.direct = s.direct := rfl
@[simp] theorem State.evtAck_answers (s : State) : s.evtAck.answers = s.answers := rfl
@[simp] theorem State.evtAck_moves (s : State) : s.evtAck.moves = s.moves := rfl
@[simp] theorem State.evtAck_draw (s : State) : s.evtAck.draw = s.draw := rfl

/-! ### raiseTrigger -/

@[simp] theorem State.raiseTrigger_st (s : State) : s.raiseTrigger.st = s.st := rfl
@[simp] theorem State.raiseTrigger_v (s : State) : s.raiseTrigger.v = s.v := rfl
@[simp] theorem State.raiseTrigger_raw (s : State) : s.raiseTrigger.raw = s.raw := rfl
@[simp] theorem State.raiseTrigger_ax (s : State) : s.raiseTrigger.ax = s.ax := rfl
@[simp] theorem State.raiseTrigger_frame (s : State) : s.raiseTrigger.frame = s.frame := rfl
@[simp] theorem State.raiseTrigger_ts (s : State) : s.raiseTrigger.ts = s.ts := rfl
@[simp] theorem State.raiseTrigger_nd (s : State) : s.raiseTrigger.nd = s.nd := rfl
@[simp] theorem State.raiseTrigger_rdy (s : State) : s.raiseTrigger.rdy = s.rdy := rfl
@[simp] theorem State.raiseTrigger_settled (s : State) : s.raiseTrigger.settled = s.settled := rfl
@[simp] theorem State.raiseTrigger_cfgMode (s : State) : s.raiseTrigger.cfgMode = s.cfgMode := rfl
@[simp] theorem State.raiseTrigger_cfgFsr (s : State) : s.raiseTrigger.cfgFsr = s.cfgFsr := rfl
@[simp] theorem State.raiseTrigger_strategy (s : State) : s.raiseTrigger.strategy = s.strategy := rfl
@[simp] theorem State.raiseTrigger_variant (s : State) : s.raiseTrigger.variant = s.variant := rfl
@[simp] theorem State.raiseTrigger_ctrl1Target (s : State) : s.raiseTrigger.ctrl1Target = s.ctrl1Target := rfl
@[simp] theorem State.raiseTrigger_ctrl4Target (s : State) : s.raiseTrigger.ctrl4Target = s.ctrl4Target := rfl
@[simp] theorem State.raiseTrigger_onReadFail (s : State) : s.raiseTrigger.onReadFail = s.onReadFail := rfl
@[simp] theorem State.raiseTrigger_initStat (s : State) : s.raiseTrigger.initStat = s.initStat := rfl
@[simp] theorem State.raiseTrigger_evtPend (s : State) : s.raiseTrigger.evtPend = true := rfl
@[simp] theorem State.raiseTrigger_history (s : State) : s.raiseTrigger.history = s.history := rfl
@[simp] theorem State.raiseTrigger_raised (s : State) : s.raiseTrigger.raised = s.raised := rfl
@[simp] theorem State.raiseTrigger_held (s : State) : s.raiseTrigger.held = s.held := rfl
@[simp] theorem State.raiseTrigger_direct (s : State) : s.raiseTrigger.direct = s.direct := rfl
@[simp] theorem State.raiseTrigger_answers (s : State) : s.raiseTrigger.answers = s.answers := rfl
@[simp] theorem State.raiseTrigger_moves (s : State) : s.raiseTrigger.moves = s.moves := rfl
@[simp] theorem State.raiseTrigger_draw (s : State) : s.raiseTrigger.draw = s.draw := rfl

/-! ### takeDirect -/

@[simp] theorem State.takeDirect_st (s : State) : s.takeDirect.st = s.st := rfl
@[simp] theorem State.takeDirect_v (s : State) : s.takeDirect.v = s.v := rfl
@[simp] theorem State.takeDirect_raw (s : State) : s.takeDirect.raw = s.raw := rfl
@[simp] theorem State.takeDirect_ax (s : State) : s.takeDirect.ax = s.ax := rfl
@[simp] theorem State.takeDirect_frame (s : State) : s.takeDirect.frame = s.frame := rfl
@[simp] theorem State.takeDirect_ts (s : State) : s.takeDirect.ts = s.ts := rfl
@[simp] theorem State.takeDirect_nd (s : State) : s.takeDirect.nd = s.nd := rfl
@[simp] theorem State.takeDirect_rdy (s : State) : s.takeDirect.rdy = s.rdy := rfl
@[simp] theorem State.takeDirect_settled (s : State) : s.takeDirect.settled = s.settled := rfl
@[simp] theorem State.takeDirect_cfgMode (s : State) : s.takeDirect.cfgMode = s.cfgMode := rfl
@[simp] theorem State.takeDirect_cfgFsr (s : State) : s.takeDirect.cfgFsr = s.cfgFsr := rfl
@[simp] theorem State.takeDirect_strategy (s : State) : s.takeDirect.strategy = s.strategy := rfl
@[simp] theorem State.takeDirect_variant (s : State) : s.takeDirect.variant = s.variant := rfl
@[simp] theorem State.takeDirect_ctrl1Target (s : State) : s.takeDirect.ctrl1Target = s.ctrl1Target := rfl
@[simp] theorem State.takeDirect_ctrl4Target (s : State) : s.takeDirect.ctrl4Target = s.ctrl4Target := rfl
@[simp] theorem State.takeDirect_onReadFail (s : State) : s.takeDirect.onReadFail = s.onReadFail := rfl
@[simp] theorem State.takeDirect_initStat (s : State) : s.takeDirect.initStat = s.initStat := rfl
@[simp] theorem State.takeDirect_evtPend (s : State) : s.takeDirect.evtPend = s.evtPend := rfl
@[simp] theorem State.takeDirect_history (s : State) : s.takeDirect.history = s.history := rfl
@[simp] theorem State.takeDirect_raised (s : State) : s.takeDirect.raised = s.raised := rfl
@[simp] theorem State.takeDirect_held (s : State) : s.takeDirect.held = false := rfl
@[simp] theorem State.takeDirect_direct (s : State) : s.takeDirect.direct = none := rfl
@[simp] theorem State.takeDirect_answers (s : State) : s.takeDirect.answers = s.answers := rfl
@[simp] theorem State.takeDirect_moves (s : State) :
    s.takeDirect.moves = if s.held then s.moves.tail else s.moves := rfl
@[simp] theorem State.takeDirect_draw (s : State) :
    s.takeDirect.draw = if s.held then s.draw + 1 else s.draw := rfl

/-! ### busRead1 -/

@[simp] theorem State.busRead1_st (s : State) (dev : DevAddr) (reg : RegAddr) : (s.busRead1 dev reg).st = s.st := rfl
@[simp] theorem State.busRead1_v (s : State) (dev : DevAddr) (reg : RegAddr) : (s.busRead1 dev reg).v = s.v := rfl
@[simp] theorem State.busRead1_raw (s : State) (dev : DevAddr) (reg : RegAddr) : (s.busRead1 dev reg).raw = s.raw := rfl
@[simp] theorem State.busRead1_ax (s : State) (dev : DevAddr) (reg : RegAddr) : (s.busRead1 dev reg).ax = s.ax := rfl
@[simp] theorem State.busRead1_frame (s : State) (dev : DevAddr) (reg : RegAddr) : (s.busRead1 dev reg).frame = s.frame := rfl
@[simp] theorem State.busRead1_ts (s : State) (dev : DevAddr) (reg : RegAddr) : (s.busRead1 dev reg).ts = s.ts := rfl
@[simp] theorem State.busRead1_nd (s : State) (dev : DevAddr) (reg : RegAddr) : (s.busRead1 dev reg).nd = s.nd := rfl
@[simp] theorem State.busRead1_rdy (s : State) (dev : DevAddr) (reg : RegAddr) : (s.busRead1 dev reg).rdy = s.rdy := rfl
@[simp] theorem State.busRead1_settled (s : State) (dev : DevAddr) (reg : RegAddr) : (s.busRead1 dev reg).settled = s.settled := rfl
@[simp] theorem State.busRead1_cfgMode (s : State) (dev : DevAddr) (reg : RegAddr) : (s.busRead1 dev reg).cfgMode = s.cfgMode := rfl
@[simp] theorem State.busRead1_cfgFsr (s : State) (dev : DevAddr) (reg : RegAddr) : (s.busRead1 dev reg).cfgFsr = s.cfgFsr := rfl
@[simp] theorem State.busRead1_strategy (s : State) (dev : DevAddr) (reg : RegAddr) : (s.busRead1 dev reg).strategy = s.strategy := rfl
@[simp] theorem State.busRead1_variant (s : State) (dev : DevAddr) (reg : RegAddr) : (s.busRead1 dev reg).variant = s.variant := rfl
@[simp] theorem State.busRead1_ctrl1Target (s : State) (dev : DevAddr) (reg : RegAddr) : (s.busRead1 dev reg).ctrl1Target = s.ctrl1Target := rfl
@[simp] theorem State.busRead1_ctrl4Target (s : State) (dev : DevAddr) (reg : RegAddr) : (s.busRead1 dev reg).ctrl4Target = s.ctrl4Target := rfl
@[simp] theorem State.busRead1_onReadFail (s : State) (dev : DevAddr) (reg : RegAddr) : (s.busRead1 dev reg).onReadFail = s.onReadFail := rfl
@[simp] theorem State.busRead1_initStat (s : State) (dev : DevAddr) (reg : RegAddr) : (s.busRead1 dev reg).initStat = s.initStat := rfl
@[simp] theorem State.busRead1_evtPend (s : State) (dev : DevAddr) (reg : RegAddr) : (s.busRead1 dev reg).evtPend = s.evtPend := rfl
@[simp] theorem State.busRead1_history (s : State) (dev : DevAddr) (reg : RegAddr) : (s.busRead1 dev reg).history = s.history ++ [.read1 dev reg s.answerNow.status (Answer.readValue s.answerNow)] := rfl
@[simp] theorem State.busRead1_raised (s : State) (dev : DevAddr) (reg : RegAddr) : (s.busRead1 dev reg).raised = s.raised := rfl
@[simp] theorem State.busRead1_held (s : State) (dev : DevAddr) (reg : RegAddr) : (s.busRead1 dev reg).held = s.held := rfl
@[simp] theorem State.busRead1_direct (s : State) (dev : DevAddr) (reg : RegAddr) : (s.busRead1 dev reg).direct = s.direct := rfl
@[simp] theorem State.busRead1_answers (s : State) (dev : DevAddr) (reg : RegAddr) : (s.busRead1 dev reg).answers = s.answers.tail := rfl
@[simp] theorem State.busRead1_moves (s : State) (dev : DevAddr) (reg : RegAddr) : (s.busRead1 dev reg).moves = s.moves := rfl
@[simp] theorem State.busRead1_draw (s : State) (dev : DevAddr) (reg : RegAddr) : (s.busRead1 dev reg).draw = s.draw + 1 := rfl

/-! ### busWrite1 -/

@[simp] theorem State.busWrite1_st (s : State) (dev : DevAddr) (reg : RegAddr) (value : Byte) : (s.busWrite1 dev reg value).st = s.st := rfl
@[simp] theorem State.busWrite1_v (s : State) (dev : DevAddr) (reg : RegAddr) (value : Byte) : (s.busWrite1 dev reg value).v = s.v := rfl
@[simp] theorem State.busWrite1_raw (s : State) (dev : DevAddr) (reg : RegAddr) (value : Byte) : (s.busWrite1 dev reg value).raw = s.raw := rfl
@[simp] theorem State.busWrite1_ax (s : State) (dev : DevAddr) (reg : RegAddr) (value : Byte) : (s.busWrite1 dev reg value).ax = s.ax := rfl
@[simp] theorem State.busWrite1_frame (s : State) (dev : DevAddr) (reg : RegAddr) (value : Byte) : (s.busWrite1 dev reg value).frame = s.frame := rfl
@[simp] theorem State.busWrite1_ts (s : State) (dev : DevAddr) (reg : RegAddr) (value : Byte) : (s.busWrite1 dev reg value).ts = s.ts := rfl
@[simp] theorem State.busWrite1_nd (s : State) (dev : DevAddr) (reg : RegAddr) (value : Byte) : (s.busWrite1 dev reg value).nd = s.nd := rfl
@[simp] theorem State.busWrite1_rdy (s : State) (dev : DevAddr) (reg : RegAddr) (value : Byte) : (s.busWrite1 dev reg value).rdy = s.rdy := rfl
@[simp] theorem State.busWrite1_settled (s : State) (dev : DevAddr) (reg : RegAddr) (value : Byte) : (s.busWrite1 dev reg value).settled = s.settled := rfl
@[simp] theorem State.busWrite1_cfgMode (s : State) (dev : DevAddr) (reg : RegAddr) (value : Byte) : (s.busWrite1 dev reg value).cfgMode = s.cfgMode := rfl
@[simp] theorem State.busWrite1_cfgFsr (s : State) (dev : DevAddr) (reg : RegAddr) (value : Byte) : (s.busWrite1 dev reg value).cfgFsr = s.cfgFsr := rfl
@[simp] theorem State.busWrite1_strategy (s : State) (dev : DevAddr) (reg : RegAddr) (value : Byte) : (s.busWrite1 dev reg value).strategy = s.strategy := rfl
@[simp] theorem State.busWrite1_variant (s : State) (dev : DevAddr) (reg : RegAddr) (value : Byte) : (s.busWrite1 dev reg value).variant = s.variant := rfl
@[simp] theorem State.busWrite1_ctrl1Target (s : State) (dev : DevAddr) (reg : RegAddr) (value : Byte) : (s.busWrite1 dev reg value).ctrl1Target = s.ctrl1Target := rfl
@[simp] theorem State.busWrite1_ctrl4Target (s : State) (dev : DevAddr) (reg : RegAddr) (value : Byte) : (s.busWrite1 dev reg value).ctrl4Target = s.ctrl4Target := rfl
@[simp] theorem State.busWrite1_onReadFail (s : State) (dev : DevAddr) (reg : RegAddr) (value : Byte) : (s.busWrite1 dev reg value).onReadFail = s.onReadFail := rfl
@[simp] theorem State.busWrite1_initStat (s : State) (dev : DevAddr) (reg : RegAddr) (value : Byte) : (s.busWrite1 dev reg value).initStat = s.initStat := rfl
@[simp] theorem State.busWrite1_evtPend (s : State) (dev : DevAddr) (reg : RegAddr) (value : Byte) : (s.busWrite1 dev reg value).evtPend = s.evtPend := rfl
@[simp] theorem State.busWrite1_history (s : State) (dev : DevAddr) (reg : RegAddr) (value : Byte) : (s.busWrite1 dev reg value).history = s.history ++ [.write1 dev reg value s.answerNow.status] := rfl
@[simp] theorem State.busWrite1_raised (s : State) (dev : DevAddr) (reg : RegAddr) (value : Byte) : (s.busWrite1 dev reg value).raised = s.raised := rfl
@[simp] theorem State.busWrite1_held (s : State) (dev : DevAddr) (reg : RegAddr) (value : Byte) : (s.busWrite1 dev reg value).held = s.held := rfl
@[simp] theorem State.busWrite1_direct (s : State) (dev : DevAddr) (reg : RegAddr) (value : Byte) : (s.busWrite1 dev reg value).direct = s.direct := rfl
@[simp] theorem State.busWrite1_answers (s : State) (dev : DevAddr) (reg : RegAddr) (value : Byte) : (s.busWrite1 dev reg value).answers = s.answers.tail := rfl
@[simp] theorem State.busWrite1_moves (s : State) (dev : DevAddr) (reg : RegAddr) (value : Byte) : (s.busWrite1 dev reg value).moves = s.moves := rfl
@[simp] theorem State.busWrite1_draw (s : State) (dev : DevAddr) (reg : RegAddr) (value : Byte) : (s.busWrite1 dev reg value).draw = s.draw + 1 := rfl

/-! ### busReadN -/

@[simp] theorem State.busReadN_st (s : State) (dev : DevAddr) (start : RegAddr) (count : Byte) : (s.busReadN dev start count).st = s.st := rfl
@[simp] theorem State.busReadN_v (s : State) (dev : DevAddr) (start : RegAddr) (count : Byte) : (s.busReadN dev start count).v = s.v := rfl
@[simp] theorem State.busReadN_raw (s : State) (dev : DevAddr) (start : RegAddr) (count : Byte) : (s.busReadN dev start count).raw = s.raw := rfl
@[simp] theorem State.busReadN_ax (s : State) (dev : DevAddr) (start : RegAddr) (count : Byte) : (s.busReadN dev start count).ax = s.ax := rfl
@[simp] theorem State.busReadN_frame (s : State) (dev : DevAddr) (start : RegAddr) (count : Byte) : (s.busReadN dev start count).frame = s.frame := rfl
@[simp] theorem State.busReadN_ts (s : State) (dev : DevAddr) (start : RegAddr) (count : Byte) : (s.busReadN dev start count).ts = s.ts := rfl
@[simp] theorem State.busReadN_nd (s : State) (dev : DevAddr) (start : RegAddr) (count : Byte) : (s.busReadN dev start count).nd = s.nd := rfl
@[simp] theorem State.busReadN_rdy (s : State) (dev : DevAddr) (start : RegAddr) (count : Byte) : (s.busReadN dev start count).rdy = s.rdy := rfl
@[simp] theorem State.busReadN_settled (s : State) (dev : DevAddr) (start : RegAddr) (count : Byte) : (s.busReadN dev start count).settled = s.settled := rfl
@[simp] theorem State.busReadN_cfgMode (s : State) (dev : DevAddr) (start : RegAddr) (count : Byte) : (s.busReadN dev start count).cfgMode = s.cfgMode := rfl
@[simp] theorem State.busReadN_cfgFsr (s : State) (dev : DevAddr) (start : RegAddr) (count : Byte) : (s.busReadN dev start count).cfgFsr = s.cfgFsr := rfl
@[simp] theorem State.busReadN_strategy (s : State) (dev : DevAddr) (start : RegAddr) (count : Byte) : (s.busReadN dev start count).strategy = s.strategy := rfl
@[simp] theorem State.busReadN_variant (s : State) (dev : DevAddr) (start : RegAddr) (count : Byte) : (s.busReadN dev start count).variant = s.variant := rfl
@[simp] theorem State.busReadN_ctrl1Target (s : State) (dev : DevAddr) (start : RegAddr) (count : Byte) : (s.busReadN dev start count).ctrl1Target = s.ctrl1Target := rfl
@[simp] theorem State.busReadN_ctrl4Target (s : State) (dev : DevAddr) (start : RegAddr) (count : Byte) : (s.busReadN dev start count).ctrl4Target = s.ctrl4Target := rfl
@[simp] theorem State.busReadN_onReadFail (s : State) (dev : DevAddr) (start : RegAddr) (count : Byte) : (s.busReadN dev start count).onReadFail = s.onReadFail := rfl
@[simp] theorem State.busReadN_initStat (s : State) (dev : DevAddr) (start : RegAddr) (count : Byte) : (s.busReadN dev start count).initStat = s.initStat := rfl
@[simp] theorem State.busReadN_evtPend (s : State) (dev : DevAddr) (start : RegAddr) (count : Byte) : (s.busReadN dev start count).evtPend = s.evtPend := rfl
@[simp] theorem State.busReadN_history (s : State) (dev : DevAddr) (start : RegAddr) (count : Byte) : (s.busReadN dev start count).history = s.history ++ [.readN dev (burstAddr start) count s.answerNow.status (Answer.burstBytes s.answerNow count)] := rfl
@[simp] theorem State.busReadN_raised (s : State) (dev : DevAddr) (start : RegAddr) (count : Byte) : (s.busReadN dev start count).raised = s.raised := rfl
@[simp] theorem State.busReadN_held (s : State) (dev : DevAddr) (start : RegAddr) (count : Byte) : (s.busReadN dev start count).held = s.held := rfl
@[simp] theorem State.busReadN_direct (s : State) (dev : DevAddr) (start : RegAddr) (count : Byte) : (s.busReadN dev start count).direct = s.direct := rfl
@[simp] theorem State.busReadN_answers (s : State) (dev : DevAddr) (start : RegAddr) (count : Byte) : (s.busReadN dev start count).answers = s.answers.tail := rfl
@[simp] theorem State.busReadN_moves (s : State) (dev : DevAddr) (start : RegAddr) (count : Byte) : (s.busReadN dev start count).moves = s.moves := rfl
@[simp] theorem State.busReadN_draw (s : State) (dev : DevAddr) (start : RegAddr) (count : Byte) : (s.busReadN dev start count).draw = s.draw + 1 := rfl

/-! ### restart (R41, R230): the parameters are those applied, the inputs stay, everything else is at its reset value -/

@[simp] theorem State.restart_st (s : State) (p : Params) : (s.restart p).st = .settle := rfl
@[simp] theorem State.restart_v (s : State) (p : Params) : (s.restart p).v = .invalid := rfl
@[simp] theorem State.restart_raw (s : State) (p : Params) : (s.restart p).raw = (State.resetWith p).raw := rfl
@[simp] theorem State.restart_ax (s : State) (p : Params) : (s.restart p).ax = (State.resetWith p).ax := rfl
@[simp] theorem State.restart_frame (s : State) (p : Params) : (s.restart p).frame = (State.resetWith p).frame := rfl
@[simp] theorem State.restart_ts (s : State) (p : Params) : (s.restart p).ts = .ok := rfl
@[simp] theorem State.restart_nd (s : State) (p : Params) : (s.restart p).nd = false := rfl
@[simp] theorem State.restart_rdy (s : State) (p : Params) : (s.restart p).rdy = false := rfl
@[simp] theorem State.restart_settled (s : State) (p : Params) : (s.restart p).settled = false := rfl
@[simp] theorem State.restart_cfgMode (s : State) (p : Params) : (s.restart p).cfgMode = p.mode := rfl
@[simp] theorem State.restart_cfgFsr (s : State) (p : Params) : (s.restart p).cfgFsr = p.fsr := rfl
@[simp] theorem State.restart_strategy (s : State) (p : Params) : (s.restart p).strategy = p.strategy := rfl
@[simp] theorem State.restart_variant (s : State) (p : Params) : (s.restart p).variant = p.variant := rfl
@[simp] theorem State.restart_ctrl1Target (s : State) (p : Params) : (s.restart p).ctrl1Target = p.ctrl1Target := rfl
@[simp] theorem State.restart_ctrl4Target (s : State) (p : Params) : (s.restart p).ctrl4Target = p.ctrl4Target := rfl
@[simp] theorem State.restart_onReadFail (s : State) (p : Params) : (s.restart p).onReadFail = p.onReadFail := rfl
@[simp] theorem State.restart_initStat (s : State) (p : Params) : (s.restart p).initStat = .reset := rfl
@[simp] theorem State.restart_evtPend (s : State) (p : Params) : (s.restart p).evtPend = false := rfl
@[simp] theorem State.restart_history (s : State) (p : Params) : (s.restart p).history = [] := rfl
@[simp] theorem State.restart_raised (s : State) (p : Params) : (s.restart p).raised = [] := rfl
@[simp] theorem State.restart_held (s : State) (p : Params) : (s.restart p).held = false := rfl
@[simp] theorem State.restart_direct (s : State) (p : Params) : (s.restart p).direct = none := rfl
@[simp] theorem State.restart_answers (s : State) (p : Params) : (s.restart p).answers = s.answers := rfl
@[simp] theorem State.restart_moves (s : State) (p : Params) : (s.restart p).moves = s.moves := rfl
@[simp] theorem State.restart_draw (s : State) (p : Params) : (s.restart p).draw = s.draw := rfl

end Sys2Proof.Machine
end

