-- ==== Sys2Proof/Laws/Ops.lean ====
section
/-! SUPPORT. What each shared operation can do, said once: the lemmas that proofs about operations, the sequencer and the
step cite instead of unfolding them. -/

namespace Sys2Proof.Machine

/-! ### Sequencing -/

@[simp] theorem andThen_next (t : State) (k : State → Result) : andThen (.next t) k = k t := rfl
@[simp] theorem andThen_fault (f : Fault) (k : State → Result) : andThen (.fault f) k = .fault f := rfl
@[simp] theorem andThen_refused (q : Refusal) (k : State → Result) : andThen (.refused q) k = .refused q := rfl

/-- Two steps in sequence answer a next state exactly where both do. -/
theorem andThen_eq_next {r : Result} {k : State → Result} {t : State} :
    andThen r k = .next t ↔ ∃ u, r = .next u ∧ k u = .next t := by
  cases r <;> simp [andThen]

theorem whenSettled_of_settled {s : State} (h : s.settled = true) (r : Result) : whenSettled s r = r := by
  simp [whenSettled, h]

theorem whenSettled_of_not_settled {s : State} (h : s.settled = false) (r : Result) :
    whenSettled s r = .refused .notSettled := by
  simp [whenSettled, h]

/-- An adapter operation answers a next state only after the settle delay (R240). -/
theorem whenSettled_eq_next {s t : State} {r : Result} :
    whenSettled s r = .next t ↔ s.settled = true ∧ r = .next t := by
  cases h : s.settled <;> simp [whenSettled, h]

/-! ### The outside world's inputs -/

theorem answerNow_cons {s : State} {a : Answer} {l : List Answer} (h : s.answers = a :: l) : s.answerNow = a := by
  simp [State.answerNow, h]

theorem moveNow_cons {s : State} {m : Move} {l : List Move} (h : s.moves = m :: l) : s.moveNow = m := by
  simp [State.moveNow, h]

/-- A burst delivers at most `count` bytes (R64). -/
theorem burstBytes_length_le (a : Answer) (count : Byte) : (Answer.burstBytes a count).length ≤ count.toNat := by
  simp [Answer.burstBytes]

/-- `TS` after a burst is `OK` exactly for a complete one (R113). -/
theorem burstStatus_eq_ok {a : Answer} {count : Byte} :
    burstStatus a count = .ok ↔ a.status = .ok ∧ (Answer.burstBytes a count).length = count.toNat := by
  unfold burstStatus; split <;> simp_all

theorem burstStatus_eq_fail {a : Answer} {count : Byte} :
    burstStatus a count = .fail ↔ ¬ (a.status = .ok ∧ (Answer.burstBytes a count).length = count.toNat) := by
  unfold burstStatus; split <;> simp_all

/-! ### Data registers -/

@[simp] theorem Datum.read_val {w : Nat} (v : BitVec w) : (Datum.val v).read = some v := rfl
@[simp] theorem Datum.read_invalid {w : Nat} : (Datum.invalid : Datum w).read = none := rfl

theorem Datum.read_eq_some {w : Nat} {d : Datum w} {v : BitVec w} : d.read = some v ↔ d = .val v := by
  cases d <;> simp

/-- `RAW` reads as six bytes exactly where all six places hold them (R22). -/
theorem rawBytes_eq_some {s : State} {b : Vector Byte 6} :
    s.rawBytes = some b ↔ s.raw = b.map Datum.val := by
  unfold State.rawBytes
  constructor
  · intro h
    split at h
    · rename_i h0 h1 h2 h3 h4 h5
      simp only [Option.some.injEq] at h
      subst h
      rw [Datum.read_eq_some] at h0 h1 h2 h3 h4 h5
      ext i hi
      interval_cases i <;> simp [*]
    · simp at h
  · intro h
    simp only [h, Vector.getElem_map, Datum.read_val, Option.some.injEq]
    ext i hi
    interval_cases i <;> rfl

/-- `AX` reads as three values exactly where all three hold them (R22). -/
theorem axValues_eq_some {s : State} {a : Vector Half 3} :
    s.axValues = some a ↔ s.ax = axOf a[0] a[1] a[2] := by
  unfold State.axValues
  constructor
  · intro h
    split at h
    · rename_i h0 h1 h2
      simp only [Option.some.injEq] at h
      subst h
      rw [Datum.read_eq_some] at h0 h1 h2
      ext i hi
      interval_cases i <;> simp [*, axOf]
    · simp at h
  · intro h
    have h0 : s.ax[0] = .val a[0] := by simp [h, axOf]
    have h1 : s.ax[1] = .val a[1] := by simp [h, axOf]
    have h2 : s.ax[2] = .val a[2] := by simp [h, axOf]
    simp only [h0, h1, h2, Datum.read_val, Option.some.injEq]
    ext i hi
    interval_cases i <;> rfl

/-- Reading `AX` directly after it was filled. -/
theorem axValues_axOf {s : State} {x y z : Half} (h : s.ax = axOf x y z) : s.axValues = some #v[x, y, z] :=
  axValues_eq_some.mpr h

/-- A complete burst of six bytes fills all of `RAW` (R113). -/
theorem fillRaw_six (b : Vector Byte 6) (raw : Vector (Datum 8) 6) : fillRaw b.toList raw = b.map Datum.val := by
  ext i hi
  interval_cases i <;> simp [fillRaw, rawSlot]

/-! ### The operations: what each can do when it answers a next state -/

/-- `RDREG` answers a next state after the settle delay, by the transport's status (R111). -/
theorem execRdreg_eq_next {dev : DevAddr} {reg : RegAddr} {s t : State} (h : execRdreg dev reg s = .next t) :
    s.settled = true ∧
    ((s.answerNow.status = .ok ∧ t = { s.busRead1 dev reg with ts := .ok, v := .val s.answerNow.value }) ∨
     (s.answerNow.status = .fail ∧
       t = { s.busRead1 dev reg with ts := .fail, v := .invalid }.raise .transportFailure)) := by
  rw [execRdreg, whenSettled_eq_next] at h
  obtain ⟨hs, h⟩ := h
  refine ⟨hs, ?_⟩
  split at h <;> simp_all

/-- `WRREG` answers a next state after the settle delay, by the transport's status (R112). -/
theorem execWrreg_eq_next {dev : DevAddr} {reg : RegAddr} {value : Byte} {s t : State}
    (h : execWrreg dev reg value s = .next t) :
    s.settled = true ∧
    ((s.answerNow.status = .ok ∧ t = { s.busWrite1 dev reg value with ts := .ok }) ∨
     (s.answerNow.status = .fail ∧
       t = { s.busWrite1 dev reg value with ts := .fail }.raise .transportFailure)) := by
  rw [execWrreg, whenSettled_eq_next] at h
  obtain ⟨hs, h⟩ := h
  refine ⟨hs, ?_⟩
  split at h <;> simp_all

/-- `RDBURST` answers a next state for a legal count after the settle delay, by the burst's status (R113). -/
theorem execRdburst_eq_next {dev : DevAddr} {start : RegAddr} {count : Byte} {s t : State}
    (h : execRdburst dev start count s = .next t) :
    burstCountOk count = true ∧ s.settled = true ∧
    ((burstStatus s.answerNow count = .ok ∧
      t = { s.busReadN dev start count with
        ts := .ok, raw := fillRaw (Answer.burstBytes s.answerNow count) s.raw }) ∨
     (burstStatus s.answerNow count = .fail ∧
      t = { s.busReadN dev start count with ts := .fail, raw := rawInvalid }.raise .transportFailure)) := by
  unfold execRdburst at h
  split at h
  · rw [whenSettled_eq_next] at h
    obtain ⟨hs, h⟩ := h
    refine ⟨by assumption, hs, ?_⟩
    split at h <;> simp_all
  · simp at h

/-- `DECODE` answers a next state where `RAW` holds six bytes (R136). -/
theorem execDecode_eq_next {s t : State} (h : execDecode s = .next t) :
    ∃ b, s.rawBytes = some b ∧
      t = { s with
        ax := axOf (decodeAxis s.cfgMode (combine b[0] b[1])) (decodeAxis s.cfgMode (combine b[2] b[3]))
          (decodeAxis s.cfgMode (combine b[4] b[5])) } := by
  unfold execDecode at h
  split at h <;> simp_all

/-- `SCALE` answers a next state where `AX` holds three values (R139). -/
theorem execScale_eq_next {s t : State} (h : execScale s = .next t) :
    ∃ a, s.axValues = some a ∧
      t = { s with
        ax := axOf (scaleAxis s.cfgMode a[0]) (scaleAxis s.cfgMode a[1]) (scaleAxis s.cfgMode a[2]) } := by
  unfold execScale at h
  split at h <;> simp_all

/-- `EMIT` answers a next state where `AX` holds three values (R171). -/
theorem execEmit_eq_next {s t : State} (h : execEmit s = .next t) :
    ∃ a, s.axValues = some a ∧
      t = { s with frame := frameRegs (frameOf s.variant a[0] a[1] a[2]) }.sinkWrite
        (frameOf s.variant a[0] a[1] a[2]).toList := by
  unfold execEmit at h
  split at h <;> simp_all

/-- `WAITRDY` notes in `held` whether it stays pending, and that is all it does (R181). -/
@[simp] theorem execWaitrdy_eq (s : State) : execWaitrdy s = .next { s with held := !s.readyEvent } := rfl

/-- `WAITRDY` completes always in the Polled strategy and with `RDY = 1` in the EventDriven (R182, R184). -/
theorem readyEvent_iff {s : State} : s.readyEvent = true ↔ s.strategy = .polled ∨ s.rdy = true := by
  unfold State.readyEvent
  split <;> simp_all

/-- `WAITRDY` stays pending in the EventDriven strategy with `RDY = 0` only (R184). -/
theorem readyEvent_eq_false {s : State} : s.readyEvent = false ↔ s.strategy = .eventDriven ∧ s.rdy = false := by
  unfold State.readyEvent
  split <;> simp_all

/-- `EVTACK` answers a next state where it is enabled (R188). -/
theorem execEvtack_eq_next {s t : State} (h : execEvtack s = .next t) :
    s.handlerEnabled = true ∧ t = { s.evtAck with rdy := true } := by
  unfold execEvtack at h
  split at h <;> simp_all

/-- `EVTACK` is enabled exactly in the EventDriven strategy with a trigger pending (R188). -/
theorem handlerEnabled_iff {s : State} :
    s.handlerEnabled = true ↔ s.strategy = .eventDriven ∧ s.evtPend = true := by
  simp [State.handlerEnabled, and_comm]

/-! ### The sequencer's records -/

/-- The end of a control register's read (R146, R148): every next state it can answer. -/
theorem afterConfigRead_eq_next {target : Byte} {write skip : SeqState} {s t : State}
    (h : afterConfigRead target write skip s = .next t) :
    (∃ v, s.ts = .ok ∧ s.v = .val v ∧ v ≠ target ∧ t = { s with st := write }.raise .configurationMismatch) ∨
    (s.ts = .ok ∧ s.v = .val target ∧ t = { s with st := skip }) ∨
    (s.ts = .fail ∧ s.onReadFail = .write ∧ t = { s with st := write }) ∨
    (s.ts = .fail ∧ s.onReadFail = .skip ∧ t = { s with st := skip }) := by
  unfold afterConfigRead at h
  split at h
  · split at h
    · split at h <;> simp_all [needsWrite]
    · simp at h
  · split at h <;> simp_all

/-- The end of a status read (R151): every next state it can answer. -/
theorem afterStatusRead_eq_next {s t : State} (h : afterStatusRead s = .next t) :
    (s.ts = .fail ∧ t = { s with st := .done }) ∨
    (∃ v, s.ts = .ok ∧ s.v = .val v ∧ newData v = true ∧
      t = { s with nd := true, rdy := s.pollRdy true, st := .burst }) ∨
    (∃ v, s.ts = .ok ∧ s.v = .val v ∧ newData v = false ∧
      t = { s with nd := false, rdy := s.pollRdy false, st := .done }.raise .noNewData) := by
  unfold afterStatusRead at h
  split at h
  · simp_all
  · split at h
    · split at h <;> simp_all
    · simp at h

/-- The end of a burst (R152). -/
theorem afterBurst_eq_next {s t : State} (h : afterBurst s = .next t) :
    (s.ts = .fail ∧ t = { s with st := .done }) ∨ (s.ts = .ok ∧ t = { s with st := .decode }) := by
  unfold afterBurst at h
  split at h <;> simp_all

/-! ### Any operation, any record -/

/-- A unit answers a next state only by performing an operation. -/
theorem runWord_eq_next {w : OpWord} {s t : State} (h : runWord w s = .next t) : ∃ i, exec i s = .next t := by
  unfold runWord at h
  split at h
  · exact ⟨_, h⟩
  · simp at h

/-- What no operation changes: `ST`, the parameters, `INITSTAT`, the op-word lines; that none clears `SETTLED`, and none
sets `RDY` in the Polled strategy; and what it can add to the history: nothing, one bus transaction, or one frame. -/
theorem exec_frame {i : Instr} {s t : State} (h : exec i s = .next t) :
    t.st = s.st ∧ t.params = s.params ∧ t.initStat = s.initStat ∧ t.direct = s.direct ∧
    (s.settled = true → t.settled = true) ∧
    (s.strategy = .polled → t.rdy = true → s.rdy = true) ∧
    (t.history = s.history ∨ (∃ e, e.isBus = true ∧ t.history = s.history ++ [e]) ∨
      ∃ x y z, t.history = s.history ++ [.frame (frameOf s.variant x y z).toList]) := by
  cases i
  case rdreg =>
    obtain ⟨_, ⟨_, rfl⟩ | ⟨_, rfl⟩⟩ := execRdreg_eq_next h <;> simp [State.params, Event.isBus]
  case wrreg =>
    obtain ⟨_, ⟨_, rfl⟩ | ⟨_, rfl⟩⟩ := execWrreg_eq_next h <;> simp [State.params, Event.isBus]
  case rdburst =>
    obtain ⟨_, _, ⟨_, rfl⟩ | ⟨_, rfl⟩⟩ := execRdburst_eq_next h <;> simp [State.params, Event.isBus]
  case settle => simp [exec, execSettle] at h; subst h; simp [State.params]
  case waitrdy => simp [exec] at h; subst h; simp [State.params]
  case decode => obtain ⟨_, _, rfl⟩ := execDecode_eq_next h; simp [State.params]
  case scale => obtain ⟨_, _, rfl⟩ := execScale_eq_next h; simp [State.params]
  case emit =>
    obtain ⟨_, _, rfl⟩ := execEmit_eq_next h
    exact ⟨rfl, rfl, rfl, rfl, id, fun _ => id, .inr (.inr ⟨_, _, _, rfl⟩)⟩
  case rdyclr => simp [exec, execRdyclr] at h; subst h; simp [State.params]
  case evtack =>
    obtain ⟨hb, rfl⟩ := execEvtack_eq_next h
    rw [handlerEnabled_iff] at hb
    simp [State.params, hb]

/-- Only `WAITRDY` writes `held` (log 6). -/
theorem exec_held {i : Instr} {s t : State} (hi : i ≠ .waitrdy) (h : exec i s = .next t) : t.held = s.held := by
  cases i
  case rdreg => obtain ⟨_, ⟨_, rfl⟩ | ⟨_, rfl⟩⟩ := execRdreg_eq_next h <;> rfl
  case wrreg => obtain ⟨_, ⟨_, rfl⟩ | ⟨_, rfl⟩⟩ := execWrreg_eq_next h <;> rfl
  case rdburst => obtain ⟨_, _, ⟨_, rfl⟩ | ⟨_, rfl⟩⟩ := execRdburst_eq_next h <;> rfl
  case settle => simp [exec, execSettle] at h; subst h; rfl
  case waitrdy => exact absurd rfl hi
  case decode => obtain ⟨_, _, rfl⟩ := execDecode_eq_next h; rfl
  case scale => obtain ⟨_, _, rfl⟩ := execScale_eq_next h; rfl
  case emit => obtain ⟨_, _, rfl⟩ := execEmit_eq_next h; rfl
  case rdyclr => simp [exec, execRdyclr] at h; subst h; rfl
  case evtack => obtain ⟨_, rfl⟩ := execEvtack_eq_next h; rfl

/-- What the record of `SEQ` leaves as it was, and that it never goes back to the initialization (R149). -/
theorem complete_frame {s t : State} (h : complete s = .next t) :
    t.params = s.params ∧ t.direct = s.direct ∧ t.settled = s.settled ∧ t.history = s.history ∧
    (s.st.inInit = false → t.st.inInit = false) := by
  rcases hst : s.st with _ | _ | _ | _ | _ | _ | _ | _ | _ | _ | _ | _ <;> simp only [complete, hst] at h
  case cfg1Rd =>
    rcases afterConfigRead_eq_next h with ⟨_, _, _, _, rfl⟩ | ⟨_, _, rfl⟩ | ⟨_, _, rfl⟩ | ⟨_, _, rfl⟩ <;>
      simp [State.params, SeqState.inInit]
  case cfg4Rd =>
    rcases afterConfigRead_eq_next h with ⟨_, _, _, _, rfl⟩ | ⟨_, _, rfl⟩ | ⟨_, _, rfl⟩ | ⟨_, _, rfl⟩ <;>
      simp [State.params, SeqState.inInit]
  case status =>
    rcases afterStatusRead_eq_next h with ⟨_, rfl⟩ | ⟨_, _, _, _, rfl⟩ | ⟨_, _, _, _, rfl⟩ <;>
      simp [State.params, SeqState.inInit]
  case burst => rcases afterBurst_eq_next h with ⟨_, rfl⟩ | ⟨_, rfl⟩ <;> simp [State.params, SeqState.inInit]
  case idle => split at h <;> simp at h <;> subst h <;> simp [State.params, SeqState.inInit, hst]
  case decode =>
    simp at h; subst h
    simp [State.params, SeqState.inInit]
    cases s.variant <;> simp [afterDecode]
  all_goals simp at h; subst h; simp [State.params, SeqState.inInit]

/-! ### The step -/

/-- Everything a step that answers a next state can be (R6, R212). -/
theorem step_eq_next {s t : State} (h : step s = .next t) :
    (∃ w u, s.turn = .direct w ∧ runWord w s.takeDirect = .next u ∧
      t = { u with direct := if u.held then some w else u.direct }) ∨
    (s.turn = .sequencer ∧ ∃ u, runWord s.dropMove.opWord s.dropMove = .next u ∧ complete u = .next t) ∨
    (s.turn = .handler ∧ execEvtack s.dropMove = .next t) ∨
    (s.turn = .trigger ∧ t = s.dropMove.raiseTrigger) ∨
    (∃ p, s.turn = .reset p ∧ t = s.dropMove.restart p) := by
  unfold step at h
  split at h
  · obtain ⟨u, hu, ht⟩ := andThen_eq_next.mp h
    exact .inl ⟨_, u, by assumption, hu, by simpa [holdDirect] using ht.symm⟩
  · exact .inr (.inl ⟨by assumption, andThen_eq_next.mp h⟩)
  · rw [handlerStep_eq] at h; exact .inr (.inr (.inl ⟨by assumption, h⟩))
  · exact .inr (.inr (.inr (.inl ⟨by assumption, by simpa using h.symm⟩)))
  · exact .inr (.inr (.inr (.inr ⟨_, by assumption, by simpa using h.symm⟩)))

/-- A machine on whose op-word lines nothing is put from outside never has a direct turn. -/
theorem turn_ne_direct {s : State} (h : s.Wired) (w : OpWord) : s.turn ≠ .direct w := by
  unfold State.turn State.offeredTurn
  rw [h]
  cases s.moveNow <;> simp
  split <;> simp

/-- The handler's turn comes only when `EVTACK` is enabled (R188). -/
theorem handlerEnabled_of_turn {s : State} (h : s.turn = .handler) : s.handlerEnabled = true := by
  unfold State.turn State.offeredTurn at h
  repeat' split at h
  all_goals simp_all

end Sys2Proof.Machine
end

