-- ==== Sys2Proof/Laws/PerInstr.lean ====
section
/-! SUPPORT. The family `OpcodeRow`: the encoding of every operation lies in its row of the opcode map (30_encoding.md R86). -/

namespace Sys2Proof.Laws.OpcodeRow

/-- The mask of an operation's row (R86). -/
def mask : Instr → OpWord
  | .rdreg _ _ => 0xFF8000FF#32
  | .wrreg _ _ _ => 0xFF800000#32
  | .rdburst _ _ _ => 0xFF800000#32
  | .settle => 0xFFFFFFFF#32
  | .waitrdy => 0xFFFFFFFF#32
  | .decode => 0xFFFFFFFF#32
  | .scale => 0xFFFFFFFF#32
  | .emit => 0xFFFFFFFF#32
  | .rdyclr => 0xFFFFFFFF#32
  | .evtack => 0xFFFFFFFF#32

/-- The match of an operation's row (R86). -/
def pattern : Instr → OpWord
  | .rdreg _ _ => 0x10000000#32
  | .wrreg _ _ _ => 0x20000000#32
  | .rdburst _ _ _ => 0x30000000#32
  | .settle => 0x40000000#32
  | .waitrdy => 0x50000000#32
  | .decode => 0x60000000#32
  | .scale => 0x70000000#32
  | .emit => 0x80000000#32
  | .rdyclr => 0x90000000#32
  | .evtack => 0xA0000000#32

/-- The operation's op word satisfies its row, `(w & mask) == match` (R86). -/
def Statement (i : Instr) : Prop := encode i &&& mask i = pattern i

theorem rdreg (dev : DevAddr) (reg : RegAddr) : Statement (.rdreg dev reg) := by
  simp only [Statement, encode, encodeB, mask, pattern]
  ext i hi; interval_cases i <;> simp

theorem wrreg (dev : DevAddr) (reg : RegAddr) (value : Byte) : Statement (.wrreg dev reg value) := by
  simp only [Statement, encode, encodeB, mask, pattern]
  ext i hi; interval_cases i <;> simp

theorem rdburst (dev : DevAddr) (start : RegAddr) (count : Byte) : Statement (.rdburst dev start count) := by
  simp only [Statement, encode, encodeB, mask, pattern]
  ext i hi; interval_cases i <;> simp

theorem settle : Statement .settle := by unfold Statement; decide
theorem waitrdy : Statement .waitrdy := by unfold Statement; decide
theorem decode : Statement .decode := by unfold Statement; decide
theorem scale : Statement .scale := by unfold Statement; decide
theorem emit : Statement .emit := by unfold Statement; decide
theorem rdyclr : Statement .rdyclr := by unfold Statement; decide
theorem evtack : Statement .evtack := by unfold Statement; decide

end Sys2Proof.Laws.OpcodeRow
end

