-- ==== Sys2Proof/Machine/Assembly.lean ====
section
/-! DEFINITION. Assembly listings of operations (30_encoding.md R90): the mnemonic in capitals, then the operands separated
by commas in the order of the source's call. For listings only; the machine reads none of it. -/

namespace Sys2Proof.Machine

/-- The hexadecimal digits of R10, in capitals. -/
def hexDigits : List String :=
  ["0", "1", "2", "3", "4", "5", "6", "7", "8", "9", "A", "B", "C", "D", "E", "F"]

/-- A two-digit hexadecimal numeral of R10. -/
def hexByte (n : Nat) : String :=
  "0x" ++ hexDigits.getD (n / 16) "?" ++ hexDigits.getD (n % 16) "?"

/-- A burst count, which is 1 to 6, as a decimal numeral; any other byte in hexadecimal. -/
def countNumeral (n : Nat) : String :=
  if n < 10 then hexDigits.getD n "?" else hexByte n

/-- One operation as a line of a listing (R90). -/
def listing : Instr → String
  | .rdreg dev reg => "RDREG " ++ hexByte dev.toNat ++ ", " ++ hexByte reg.toNat
  | .wrreg dev reg value =>
    "WRREG " ++ hexByte dev.toNat ++ ", " ++ hexByte reg.toNat ++ ", " ++ hexByte value.toNat
  | .rdburst dev start count =>
    "RDBURST " ++ hexByte dev.toNat ++ ", " ++ hexByte start.toNat ++ ", " ++ countNumeral count.toNat
  | .settle => "SETTLE"
  | .waitrdy => "WAITRDY"
  | .decode => "DECODE"
  | .scale => "SCALE"
  | .emit => "EMIT"
  | .rdyclr => "RDYCLR"
  | .evtack => "EVTACK"

end Sys2Proof.Machine
end

