-- ==== Sys2Proof/Tests/Slice0.lean ====
section
/-! SUPPORT. The model's own tests: expected results are those of spec/95_test_vectors.md, the table or program named at
each. Below them, for every statement with hypotheses, a concrete input that meets all of them. -/

namespace Sys2Proof.Tests

open Sys2Proof Sys2Proof.Machine

/-! ### Helpers -/

/-- The illustrations of 95_test_vectors.md: `T1` = 0x57, `T4` = 0x00 (Normal, 2g) or 0x18 (HighResolution, 4g). -/
def params : Params := ⟨.normal, .g2, .polled, .reference, ⟨0x57#8, 0x57#8⟩, ⟨0x00#8, 0x10#8, 0x08#8, 0x18#8⟩, .write⟩

/-- The same, EventDriven. -/
def eventParams : Params := { params with strategy := .eventDriven }

/-- The start state of table 2.2, in the sequencer state `st`, with the transport's next answers and `SEQ` to move. -/
def start (st : SeqState) (answers : List Answer) : State :=
  { State.resetWith params with
    st := st, settled := true, v := .val 0x11#8, answers := answers, moves := [.sequencer],
    raw := #v[.val 0x01#8, .val 0x02#8, .val 0x03#8, .val 0x04#8, .val 0x05#8, .val 0x06#8] }

/-- An answer to a single read. -/
def okRead (v : Byte) : Answer := ⟨.ok, v, []⟩
/-- An answer to a burst. -/
def okBurst (bytes : List Byte) : Answer := ⟨.ok, 0#8, bytes⟩
/-- A failure. -/
def failed : Answer := ⟨.fail, 0#8, []⟩

/-- The six bytes of the source's scenario. -/
def scenario : Vector Byte 6 := #v[0x00#8, 0x40#8, 0x00#8, 0x20#8, 0x00#8, 0x10#8]

/-- `RAW` holding the scenario. -/
def withRaw (s : State) (b : Vector Byte 6) : State :=
  { s with raw := #v[.val b[0], .val b[1], .val b[2], .val b[3], .val b[4], .val b[5]] }
/-- `AX` holding three values. -/
def withAx (s : State) (x y z : Half) : State := { s with ax := axOf x y z }

/-- The result is a next state with the property. -/
def nextHas (r : Result) (p : State → Bool) : Bool :=
  match r with
  | .next t => p t
  | .fault _ => false
  | .refused _ => false

/-- The result is this refusal. -/
def refusedWith (r : Result) (q : Refusal) : Bool :=
  match r with
  | .next _ => false
  | .fault _ => false
  | .refused q' => decide (q' = q)

/-- The result is this fault. -/
def faultedWith (r : Result) (f : Fault) : Bool :=
  match r with
  | .next _ => false
  | .fault f' => decide (f' = f)
  | .refused _ => false

/-! ### WellFormed: the one check refuses an ill-formed term on either side of its range (R88) -/

theorem test_wellFormed_count_zero : (Instr.rdburst 0x18#7 0x28#8 0#8).wellFormed = false := by decide
theorem test_wellFormed_count_seven : (Instr.rdburst 0x18#7 0x28#8 7#8).wellFormed = false := by decide
theorem test_wellFormed_count_six : (Instr.rdburst 0x18#7 0x28#8 6#8).wellFormed = true := by decide

/-! ### Decoding: words written out field by field from R83 and R84 (table 2.1) -/

theorem test_decode_rdreg :
    decode (0x1#4 ++ 0b00000#5 ++ 0b0011000#7 ++ 0b00100111#8 ++ 0b00000000#8) = .ok (.rdreg 0x18#7 0x27#8) := by decide
theorem test_decode_wrreg :
    decode (0x2#4 ++ 0b00000#5 ++ 0b0011000#7 ++ 0b00100000#8 ++ 0b01010111#8) =
      .ok (.wrreg 0x18#7 0x20#8 0x57#8) := by decide
theorem test_decode_rdburst :
    decode (0x3#4 ++ 0b00000#5 ++ 0b0011000#7 ++ 0b00101000#8 ++ 0b00000110#8) =
      .ok (.rdburst 0x18#7 0x28#8 6#8) := by decide
theorem test_decode_settle : decode (0x4#4 ++ 0#28) = .ok .settle := by decide
theorem test_decode_waitrdy : decode (0x5#4 ++ 0#28) = .ok .waitrdy := by decide
theorem test_decode_decode : decode (0x6#4 ++ 0#28) = .ok .decode := by decide
theorem test_decode_scale : decode (0x7#4 ++ 0#28) = .ok .scale := by decide
theorem test_decode_emit : decode (0x8#4 ++ 0#28) = .ok .emit := by decide
theorem test_decode_rdyclr : decode (0x9#4 ++ 0#28) = .ok .rdyclr := by decide
theorem test_decode_evtack : decode (0xA#4 ++ 0#28) = .ok .evtack := by decide
theorem test_decode_refusals :
    decode 0xB0000000#32 = .error .reservedOp ∧ decode 0xF0000000#32 = .error .reservedOp ∧
    decode 0x18182700#32 = .error .nonzeroZ5 ∧ decode 0x40000001#32 = .error .nonzeroZ28 ∧
    decode 0x30182800#32 = .error .burstCount ∧ decode 0x301828FF#32 = .error .burstCount := by decide
theorem test_tableWord :
    decodeTableWord 32 0x30182806 = some (.rdburst 0x18#7 0x28#8 6#8) ∧ decodeTableWord 32 0x30182807 = none := by
  decide
theorem test_listing :
    listing (.wrreg 0x18#7 0x20#8 0x57#8) = "WRREG 0x18, 0x20, 0x57" ∧
    listing (.rdburst 0x18#7 0x28#8 6#8) = "RDBURST 0x18, 0x28, 6" := by decide

/-! ### The operations -/

/-- Table 2.2, row 1. -/
theorem test_rdreg_ok :
    nextHas (exec (.rdreg 0x18#7 0x27#8) (start .status [okRead 0x08#8]))
      (fun t => decide (t.ts = .ok) && decide (t.v = .val 0x08#8)) = true := by decide
/-- Table 2.2, row 3. -/
theorem test_rdreg_fail :
    nextHas (exec (.rdreg 0x18#7 0x27#8) (start .status [failed]))
      (fun t => decide (t.ts = .fail) && decide (t.v = .invalid) && decide (t.raised = [.transportFailure])) = true := by
  decide
/-- Table 2.2, row 5: the request is in the history, `V` is unchanged. -/
theorem test_wrreg_ok :
    nextHas (exec (.wrreg 0x18#7 0x20#8 0x57#8) (start .cfg1Wr [okRead 0#8]))
      (fun t => decide (t.v = .val 0x11#8) && decide (t.history = [.write1 0x18#7 0x20#8 0x57#8 .ok])) = true := by decide
/-- Table 2.2, last row. -/
theorem test_wrreg_unsettled :
    refusedWith (exec (.wrreg 0x18#7 0x20#8 0x57#8) (State.resetWith params)) .notSettled = true := by decide
/-- Table 2.2, row 12: the unused form with two bytes. -/
theorem test_rdburst_two :
    nextHas (exec (.rdburst 0x18#7 0x28#8 2#8) (start .burst [okBurst [0xAA#8, 0xBB#8]]))
      (fun t => decide (t.raw =
        #v[.val 0xAA#8, .val 0xBB#8, .val 0x03#8, .val 0x04#8, .val 0x05#8, .val 0x06#8])) = true := by decide
/-- Table 2.2, row 11: a short read. -/
theorem test_rdburst_short :
    nextHas (exec (.rdburst 0x18#7 0x28#8 6#8) (start .burst [okBurst [0x00#8, 0x40#8, 0x00#8, 0x20#8, 0x00#8]]))
      (fun t => decide (t.ts = .fail) && decide (t.raw = rawInvalid)) = true := by decide
/-- The worked example of R131. -/
theorem test_settle : nextHas (exec .settle (State.resetWith params)) (fun t => t.settled) = true := by decide
/-- Table 2.5, row 3, Normal: a sign, both extremes. -/
theorem test_decode_normal :
    nextHas (exec .decode (withRaw (start .decode []) #v[0xF0#8, 0xFF#8, 0x00#8, 0x80#8, 0xFF#8, 0x7F#8]))
      (fun t => decide (t.ax = axOf (BitVec.ofInt 16 (-1)) (BitVec.ofInt 16 (-512)) 511#16)) = true := by decide
/-- Table 2.5, row 8, HighRes: the discarded bits. -/
theorem test_decode_highResolution :
    nextHas (exec .decode (withRaw { start .decode [] with cfgMode := .highResolution }
        #v[0x30#8, 0x00#8, 0xC0#8, 0xFF#8, 0x3F#8, 0x80#8]))
      (fun t => decide (t.ax = axOf 3#16 (BitVec.ofInt 16 (-4)) (BitVec.ofInt 16 (-2045)))) = true := by decide
/-- Table 2.4, Normal: a sign, the smallest input, a wrap. -/
theorem test_scale_normal :
    nextHas (exec .scale (withAx (start .scale []) 0xFFFF#16 0xFE00#16 0x2000#16))
      (fun t => decide (t.ax = axOf 0xFFFC#16 0xF800#16 0x8000#16)) = true := by decide
/-- Table 2.4, HighResolution. -/
theorem test_scale_highResolution :
    nextHas (exec .scale (withAx { start .scale [] with cfgMode := .highResolution } 2047#16 0xF800#16 0x4000#16))
      (fun t => decide (t.ax = axOf 0x0FFE#16 0xF000#16 0x8000#16)) = true := by decide
/-- Table 2.5, row 5: the payload holds the header and the footer. -/
theorem test_emit_reference :
    nextHas (exec .emit (withAx (start .emit []) 1000#16 160#16 192#16))
      (fun t => decide (t.sinkBytes = [0xA0#8, 0xE8#8, 0x03#8, 0xA0#8, 0x00#8, 0xC0#8, 0x00#8, 0xC0#8])) = true := by
  decide
/-- Program 5, line 5. -/
theorem test_emit_historical :
    nextHas (exec .emit (withAx { start .emit [] with variant := .historical } 0xFFFF#16 0xFE00#16 0x01FF#16))
      (fun t => decide (t.sinkBytes = [0xA0#8, 0xFF#8, 0xFF#8, 0xFE#8, 0x00#8, 0x01#8, 0xFF#8, 0xC0#8])) = true := by
  decide
/-- R22: an `invalid` register. -/
theorem test_scale_invalid : faultedWith (exec .scale (State.resetWith params)) (.invalidRead .ax) = true := by decide
/-- Table 2.7, row 4: `RDY` stays 1. -/
theorem test_waitrdy :
    nextHas (seqStep { start .idle [] with strategy := .eventDriven, rdy := true })
      (fun t => decide (t.st = .status) && t.rdy) = true := by decide
/-- Table 2.7, row 1: the sequencer holds. -/
theorem test_waitrdy_holds :
    nextHas (seqStep { start .idle [] with strategy := .eventDriven })
      (fun t => decide (t.st = .idle)) = true := by decide
/-- R184: a direct `WAITRDY` with `RDY = 0` stays on the op-word lines, pending (log 5, log 6). -/
theorem test_waitrdy_direct_holds :
    nextHas (step ({ start .settle [] with strategy := .eventDriven }.withFetchWord 32 0x50000000))
      (fun t => t.held && decide (t.direct = some 0x50000000#32)) = true := by decide
/-- R181, worked example: once `RDY = 1` the pending `WAITRDY` completes, with `RDY` still 1. -/
theorem test_waitrdy_direct_completes :
    nextHas (step { start .settle [] with
        strategy := .eventDriven, rdy := true, held := true, direct := some 0x50000000#32 })
      (fun t => !t.held && t.rdy && decide (t.direct = none)) = true := by decide
/-- Table 2.7, row 5. -/
theorem test_rdyclr :
    nextHas (seqStep { start .done [] with rdy := true }) (fun t => decide (t.st = .idle) && !t.rdy) = true := by decide
/-- Table 2.7, row 2. -/
theorem test_evtack :
    nextHas (exec .evtack { start .idle [] with strategy := .eventDriven, evtPend := true })
      (fun t => t.rdy && !t.evtPend) = true := by decide
/-- Table 2.7, row 8. -/
theorem test_evtack_polled :
    refusedWith (exec .evtack { start .idle [] with evtPend := true }) .handlerNotEnabled = true := by decide

/-! ### Steps -/

/-- Program 1, line 3: `ConfigurationMismatch`. -/
theorem test_step_mismatch :
    nextHas (step (start .cfg4Rd [okRead 0x08#8]))
      (fun t => decide (t.st = .cfg4Wr) && decide (t.initStat.c4r = .ok) &&
        decide (t.raised = [.configurationMismatch])) = true := by decide
/-- Program 4, line 2, both values of `CFG_ON_READ_FAIL`. -/
theorem test_step_read_fail :
    nextHas (step (start .cfg1Rd [failed])) (fun t => decide (t.st = .cfg1Wr)) = true ∧
    nextHas (step { start .cfg1Rd [failed] with onReadFail := .skip }) (fun t => decide (t.st = .cfg4Rd)) = true := by
  decide
/-- Table 2.6, row 3: the other bits are ignored. -/
theorem test_step_noNewData :
    nextHas (step (start .status [okRead 0xF7#8]))
      (fun t => decide (t.st = .done) && !t.nd && decide (t.raised = [.noNewData])) = true := by decide
/-- Program 5, line 4: `SCALE` is skipped. -/
theorem test_step_historical :
    nextHas (step (withRaw { start .decode [] with variant := .historical } scenario))
      (fun t => decide (t.st = .emit)) = true := by decide
/-- Program 3, line 17: the handler between two operations leaves `ST`. -/
theorem test_step_handler :
    nextHas (step { start .burst [] with strategy := .eventDriven, evtPend := true, moves := [.handler] })
      (fun t => decide (t.st = .burst) && t.rdy && !t.evtPend) = true := by decide
/-- A direct op word is performed and `SEQ` records nothing (log 5). -/
theorem test_step_direct :
    nextHas (step ((State.resetWith params).withFetchWord 32 0x40000000))
      (fun t => decide (t.st = .settle) && t.settled && decide (t.direct = none)) = true := by decide
/-- Table 2.8, row 7: `INITSTAT` as one byte, and the last status of each step. -/
theorem test_initStat :
    InitStat.toByte ⟨.fail, .ok, .ok, .notIssued⟩ = 0x16#8 ∧
    InitStat.lastStep2 ⟨.fail, .ok, .ok, .notIssued⟩ = .ok ∧ InitStat.lastStep3 ⟨.fail, .ok, .ok, .notIssued⟩ = .ok := by
  decide

/-! ### Witnesses: inputs that meet the hypotheses of each statement, clause by clause -/

theorem witness_EncodeThenDecode :
    (Instr.rdburst 0x18#7 0x28#8 1#8).wellFormed = true ∧ (Instr.rdburst 0x7F#7 0xFF#8 6#8).wellFormed = true := by decide
theorem witness_DecodeThenEncode : decode 0x107FFF00#32 = .ok (.rdreg 0x7F#7 0xFF#8) := by decide
theorem witness_OperandsAreFields :
    decode 0x107FFF00#32 = .ok (.rdreg 0x7F#7 0xFF#8) ∧ decode 0x207FFFFF#32 = .ok (.wrreg 0x7F#7 0xFF#8 0xFF#8) ∧
    decode 0x307FFF06#32 = .ok (.rdburst 0x7F#7 0xFF#8 6#8) := by decide
theorem witness_IllegalOpWordsRefused_op :
    OpWord.op 0x0FFFFFFF#32 = 0x0#4 ∧ 0xB ≤ (OpWord.op 0xB0000000#32).toNat := by decide
theorem witness_IllegalOpWordsRefused_z5 :
    (1 ≤ (OpWord.op 0x10800000#32).toNat ∧ (OpWord.op 0x10800000#32).toNat ≤ 3 ∧ OpWord.z5 0x10800000#32 ≠ 0#5) ∧
    (1 ≤ (OpWord.op 0x38000001#32).toNat ∧ (OpWord.op 0x38000001#32).toNat ≤ 3 ∧ OpWord.z5 0x38000001#32 ≠ 0#5) := by
  decide
theorem witness_IllegalOpWordsRefused_arg :
    OpWord.op 0x10182701#32 = 0x1#4 ∧ OpWord.z5 0x10182701#32 = 0#5 ∧ OpWord.arg 0x10182701#32 ≠ 0#8 := by decide
theorem witness_IllegalOpWordsRefused_z28 :
    (4 ≤ (OpWord.op 0x40000001#32).toNat ∧ (OpWord.op 0x40000001#32).toNat ≤ 0xA ∧ OpWord.z28 0x40000001#32 ≠ 0#28) ∧
    (4 ≤ (OpWord.op 0xA8000000#32).toNat ∧ (OpWord.op 0xA8000000#32).toNat ≤ 0xA ∧ OpWord.z28 0xA8000000#32 ≠ 0#28) := by
  decide
theorem witness_IllegalOpWordsRefused_count :
    (OpWord.op 0x30182800#32 = 0x3#4 ∧ OpWord.z5 0x30182800#32 = 0#5 ∧ OpWord.arg 0x30182800#32 = 0#8) ∧
    (OpWord.op 0x30182807#32 = 0x3#4 ∧ OpWord.z5 0x30182807#32 = 0#5 ∧ 6 < (OpWord.arg 0x30182807#32).toNat) := by decide
theorem witness_IllegalOpWordsRefused_both :
    1 ≤ (OpWord.op 0x10800001#32).toNat ∧ (OpWord.op 0x10800001#32).toNat ≤ 3 ∧ OpWord.z5 0x10800001#32 ≠ 0#5 ∧
    OpWord.arg 0x10800001#32 ≠ 0#8 := by decide
theorem witness_IllegalOpWordsRefused_unit : decode 0x00000000#32 = .error .reservedOp := by decide

theorem witness_RdregResult_ok :
    (start .status [okRead 0xFF#8]).settled = true ∧ (start .status [okRead 0xFF#8]).answerNow.status = .ok := by decide
theorem witness_RdregResult_fail :
    (start .status [failed]).settled = true ∧ (start .status [failed]).answerNow.status = .fail := by decide
theorem witness_RdregResult_unsettled : (State.resetWith params).settled = false := by decide
theorem witness_WrregResult_ok :
    (start .cfg1Wr [okRead 0#8]).settled = true ∧ (start .cfg1Wr [okRead 0#8]).answerNow.status = .ok := by decide
theorem witness_WrregResult_fail :
    (start .cfg1Wr [failed]).settled = true ∧ (start .cfg1Wr [failed]).answerNow.status = .fail := by decide
theorem witness_WrregResult_unsettled : (State.resetWith params).settled = false := by decide
theorem witness_RdburstResult_one :
    1 ≤ (1#8 : Byte).toNat ∧ (1#8 : Byte).toNat ≤ 6 ∧ (start .burst [okBurst [0x80#8]]).settled = true ∧
    (start .burst [okBurst [0x80#8]]).answerNow.status = .ok ∧
    (start .burst [okBurst [0x80#8]]).answerNow.bytes.length = (1#8 : Byte).toNat := by decide
theorem witness_RdburstResult_six :
    1 ≤ (6#8 : Byte).toNat ∧ (6#8 : Byte).toNat ≤ 6 ∧ (start .burst [okBurst scenario.toList]).settled = true ∧
    (start .burst [okBurst scenario.toList]).answerNow.status = .ok ∧
    (start .burst [okBurst scenario.toList]).answerNow.bytes.length = (6#8 : Byte).toNat := by decide
theorem witness_RdburstResult_failed :
    1 ≤ (6#8 : Byte).toNat ∧ (6#8 : Byte).toNat ≤ 6 ∧ (start .burst [failed]).settled = true ∧
    (start .burst [failed]).answerNow.bytes.length ≤ (6#8 : Byte).toNat ∧
    (start .burst [failed]).answerNow.status = .fail := by decide
theorem witness_RdburstResult_short :
    1 ≤ (6#8 : Byte).toNat ∧ (6#8 : Byte).toNat ≤ 6 ∧
    (start .burst [okBurst (scenario.toList.take 5)]).settled = true ∧
    (start .burst [okBurst (scenario.toList.take 5)]).answerNow.bytes.length < (6#8 : Byte).toNat := by decide
theorem witness_RdburstResult_unsettled :
    1 ≤ (1#8 : Byte).toNat ∧ (1#8 : Byte).toNat ≤ 6 ∧ (State.resetWith params).settled = false := by decide
theorem witness_RdburstResult_count :
    (0#8 : Byte).toNat = 0 ∧ 6 < (7#8 : Byte).toNat ∧ (start .burst []).settled = true := by decide
theorem witness_SettleBeforeTransactions :
    (State.resetWith params).settled = false ∧ (State.resetWith params).st = .settle := by decide
theorem witness_AdapterFrame :
    (∃ t, exec (.rdreg 0x18#7 0x27#8) (start .status [failed]) = .next t) ∧
    (∃ t, exec (.wrreg 0x18#7 0x20#8 0x57#8) (start .cfg1Wr [okRead 0#8]) = .next t) ∧
    (∃ t, exec (.rdburst 0x18#7 0x28#8 6#8) (start .burst [okBurst scenario.toList]) = .next t) :=
  ⟨⟨_, rfl⟩, ⟨_, rfl⟩, ⟨_, rfl⟩⟩
theorem witness_SettleResult : (start .settle []).settled = true := by decide
theorem witness_DecodeResult :
    (withRaw (start .decode []) scenario).raw = scenario.map Datum.val ∧
    (∃ (i : Nat) (hi : i < 6), (State.resetWith params).raw[i] = .invalid) := ⟨by simp [withRaw, scenario], 5, by decide, rfl⟩
theorem witness_DecodeAxisBits : 0 < 16 ∧ 15 < 16 := by decide
theorem witness_DecodeArithmetic :
    2 < 3 ∧ (withRaw (start .decode []) scenario).cfgMode = (withRaw (start .idle []) scenario).cfgMode ∧
    (withRaw (start .decode []) scenario).raw[4] = (withRaw (start .idle []) scenario).raw[4] ∧
    (withRaw (start .decode []) scenario).raw[5] = (withRaw (start .idle []) scenario).raw[5] ∧
    (∃ t, exec .decode (withRaw (start .decode []) scenario) = .next t) ∧
    (∃ t, exec .decode (withRaw (start .idle []) scenario) = .next t) :=
  ⟨by decide, rfl, rfl, rfl, ⟨_, rfl⟩, ⟨_, rfl⟩⟩
theorem witness_ScaleResult :
    (withAx (start .scale []) 0x7FFF#16 0x8000#16 0#16).variant = .reference ∧
    (withAx (start .scale []) 0x7FFF#16 0x8000#16 0#16).ax = #v[.val 0x7FFF#16, .val 0x8000#16, .val 0#16] ∧
    (∃ (i : Nat) (hi : i < 3), (State.resetWith params).ax[i] = .invalid) := ⟨rfl, rfl, 2, by decide, rfl⟩
theorem witness_AxisRanges :
    (∃ t, exec .decode (withRaw (start .decode []) scenario) = .next t) ∧
    (withAx (start .scale []) 511#16 0xFE00#16 0#16).ax = axOf 511#16 0xFE00#16 0#16 ∧
    countRange .normal 511#16 ∧ countRange .normal 0xFE00#16 ∧ countRange .normal 0#16 ∧
    countRange .highResolution 2047#16 ∧ countRange .highResolution 0xF800#16 ∧
    (∃ t, exec .scale (withAx (start .scale []) 511#16 0xFE00#16 0#16) = .next t) := by
  refine ⟨⟨_, rfl⟩, rfl, ?_, ?_, ?_, ?_, ?_, ⟨_, rfl⟩⟩ <;> unfold countRange <;> decide
theorem witness_ScaleReadsNoVariant : ∃ t, exec .scale (withAx (start .scale []) 1#16 2#16 3#16) = .next t := ⟨_, rfl⟩
theorem witness_EmitResult :
    (withAx (start .emit []) 1#16 2#16 3#16).ax = #v[.val 1#16, .val 2#16, .val 3#16] ∧
    (withAx (start .emit []) 1#16 2#16 3#16).variant = .reference ∧
    (withAx { start .emit [] with variant := .historical } 1#16 2#16 3#16).ax = #v[.val 1#16, .val 2#16, .val 3#16] ∧
    (withAx { start .emit [] with variant := .historical } 1#16 2#16 3#16).variant = .historical ∧
    (∃ (i : Nat) (hi : i < 3), (State.resetWith params).ax[i] = .invalid) := ⟨rfl, rfl, rfl, rfl, 0, by decide, rfl⟩
theorem witness_DatapathFrame :
    (∃ t, exec .settle (start .settle []) = .next t) ∧
    (∃ t, exec .decode (withRaw (start .decode []) scenario) = .next t) ∧
    (∃ t, exec .scale (withAx (start .scale []) 1#16 2#16 3#16) = .next t) ∧
    (∃ t, exec .emit (withAx (start .emit []) 1#16 2#16 3#16) = .next t) := ⟨⟨_, rfl⟩, ⟨_, rfl⟩, ⟨_, rfl⟩, ⟨_, rfl⟩⟩

/-- An EventDriven machine in `S_IDLE`. -/
def eventIdle (rdy evtPend : Bool) : State :=
  { State.resetWith eventParams with st := .idle, settled := true, rdy := rdy, evtPend := evtPend }

theorem witness_WaitrdyResult :
    (eventIdle false false).st = .idle ∧ (eventIdle false false).strategy = .eventDriven ∧
    (eventIdle false false).rdy = false ∧ (start .idle []).strategy = .polled ∧ (eventIdle true false).rdy = true := by
  decide
theorem witness_WaitrdyResult_lifted :
    { eventIdle false true with direct := some 0x50000000#32, held := true, moves := [.handler] }.moveNow = .handler ∧
    { eventIdle false true with direct := some 0x50000000#32, held := true, moves := [.handler] }.held = true ∧
    { eventIdle false true with direct := some 0x50000000#32, held := true, moves := [.handler] }.direct =
      some 0x50000000#32 ∧
    (eventIdle false true).strategy = .eventDriven ∧ (eventIdle false true).evtPend = true := by decide
theorem witness_EvtackResult :
    ((eventIdle true true).strategy = .eventDriven ∧ (eventIdle true true).evtPend = true) ∧
    (start .idle []).strategy = .polled ∧ (eventIdle true false).evtPend = false := by decide
theorem witness_EvtackNotEnabled : (start .idle []).strategy = .polled ∧ (eventIdle true false).evtPend = false := by decide
theorem witness_ReadinessFrame :
    (∃ t, exec .waitrdy (eventIdle true true) = .next t) ∧ (∃ t, exec .rdyclr (eventIdle true true) = .next t) ∧
    (∃ t, exec .evtack (eventIdle true true) = .next t) := ⟨⟨_, rfl⟩, ⟨_, rfl⟩, ⟨_, rfl⟩⟩

/-- An EventDriven machine in a sampling step, a trigger pending, with a move to take. -/
def inWindow (st : SeqState) (m : Move) : State := { eventIdle true true with st := st, answers := [failed], moves := [m] }

theorem witness_EventInWindowIsLost :
    (inWindow .burst .handler).Wired ∧ (inWindow .burst .handler).strategy = .eventDriven ∧
    (inWindow .burst .handler).rdy = true ∧ (inWindow .burst .handler).st.inSample = true ∧
    (inWindow .burst .handler).turn = .handler ∧ (∃ t, step (inWindow .burst .handler) = .next t) :=
  ⟨rfl, rfl, rfl, rfl, rfl, ⟨_, rfl⟩⟩
theorem witness_EventInWindowIsLost_turns :
    ((inWindow .status .trigger).turn = .trigger ∧ (∃ t, step (inWindow .status .trigger) = .next t)) ∧
    ((inWindow .status .sequencer).turn = .sequencer ∧ (∃ t, step (inWindow .status .sequencer) = .next t)) ∧
    ((inWindow .done .sequencer).turn = .sequencer ∧ (inWindow .done .sequencer).st = .done ∧
      (∃ t, step (inWindow .done .sequencer) = .next t)) ∧
    (eventIdle false false).rdy = false ∧ (eventIdle false false).st = .idle :=
  ⟨⟨rfl, ⟨_, rfl⟩⟩, ⟨rfl, ⟨_, rfl⟩⟩, ⟨rfl, rfl, ⟨_, rfl⟩⟩, rfl, rfl⟩
theorem witness_SettleState : (State.resetWith params).st = .settle := by decide
theorem witness_IdleState :
    ((start .idle []).st = .idle ∧ (start .idle []).strategy = .polled) ∧
    (eventIdle true false).st = .idle ∧ (eventIdle true false).rdy = true := by decide

theorem witness_Ctrl1ReadState_differs :
    (start .cfg1Rd [okRead 0x07#8]).st = .cfg1Rd ∧ (start .cfg1Rd [okRead 0x07#8]).settled = true ∧
    (start .cfg1Rd [okRead 0x07#8]).answerNow.status = .ok ∧
    (start .cfg1Rd [okRead 0x07#8]).answerNow.value ≠ (start .cfg1Rd [okRead 0x07#8]).target1 := by decide
theorem witness_Ctrl1ReadState_equal :
    (start .cfg1Rd [okRead 0x57#8]).st = .cfg1Rd ∧ (start .cfg1Rd [okRead 0x57#8]).settled = true ∧
    (start .cfg1Rd [okRead 0x57#8]).answerNow.status = .ok ∧
    (start .cfg1Rd [okRead 0x57#8]).answerNow.value = (start .cfg1Rd [okRead 0x57#8]).target1 := by decide
theorem witness_Ctrl1ReadState_failed :
    ((start .cfg1Rd [failed]).st = .cfg1Rd ∧ (start .cfg1Rd [failed]).settled = true ∧
      (start .cfg1Rd [failed]).answerNow.status = .fail ∧ (start .cfg1Rd [failed]).onReadFail = .write) ∧
    (start .cfg1Rd [failed]).answerNow.status = .fail ∧
      { start .cfg1Rd [failed] with onReadFail := .skip }.onReadFail = .skip := by decide
theorem witness_CtrlWriteStates :
    ((start .cfg1Wr [okRead 0#8]).settled = true ∧ (start .cfg1Wr [okRead 0#8]).st = .cfg1Wr ∧
      (start .cfg1Wr [okRead 0#8]).answerNow.status = .ok) ∧
    ((start .cfg1Wr [failed]).settled = true ∧ (start .cfg1Wr [failed]).answerNow.status = .fail) ∧
    ((start .cfg4Wr [okRead 0#8]).settled = true ∧ (start .cfg4Wr [okRead 0#8]).st = .cfg4Wr ∧
      (start .cfg4Wr [okRead 0#8]).answerNow.status = .ok) ∧
    (start .cfg4Wr [failed]).settled = true ∧ (start .cfg4Wr [failed]).answerNow.status = .fail := by decide
theorem witness_Ctrl4ReadState_differs :
    (start .cfg4Rd [okRead 0x08#8]).st = .cfg4Rd ∧ (start .cfg4Rd [okRead 0x08#8]).settled = true ∧
    (start .cfg4Rd [okRead 0x08#8]).answerNow.status = .ok ∧
    (start .cfg4Rd [okRead 0x08#8]).answerNow.value ≠ (start .cfg4Rd [okRead 0x08#8]).target4 := by decide
theorem witness_Ctrl4ReadState_equal :
    (start .cfg4Rd [okRead 0x00#8]).st = .cfg4Rd ∧ (start .cfg4Rd [okRead 0x00#8]).settled = true ∧
    (start .cfg4Rd [okRead 0x00#8]).answerNow.status = .ok ∧
    (start .cfg4Rd [okRead 0x00#8]).answerNow.value = (start .cfg4Rd [okRead 0x00#8]).target4 := by decide
theorem witness_Ctrl4ReadState_failed :
    ((start .cfg4Rd [failed]).st = .cfg4Rd ∧ (start .cfg4Rd [failed]).settled = true ∧
      (start .cfg4Rd [failed]).answerNow.status = .fail ∧ (start .cfg4Rd [failed]).onReadFail = .write) ∧
    (start .cfg4Rd [failed]).answerNow.status = .fail ∧
      { start .cfg4Rd [failed] with onReadFail := .skip }.onReadFail = .skip := by decide
theorem witness_StatusState_failed :
    (start .status [failed]).st = .status ∧ (start .status [failed]).settled = true ∧
    (start .status [failed]).answerNow.status = .fail := by decide
theorem witness_StatusState_set :
    (start .status [okRead 0x08#8]).st = .status ∧ (start .status [okRead 0x08#8]).settled = true ∧
    (start .status [okRead 0x08#8]).answerNow.status = .ok ∧
    (start .status [okRead 0x08#8]).answerNow.value.getLsbD 3 = true := by decide
theorem witness_StatusState_clear :
    (start .status [okRead 0xF7#8]).st = .status ∧ (start .status [okRead 0xF7#8]).settled = true ∧
    (start .status [okRead 0xF7#8]).answerNow.status = .ok ∧
    (start .status [okRead 0xF7#8]).answerNow.value.getLsbD 3 = false := by decide
theorem witness_BurstState_failed :
    ((start .burst [failed]).st = .burst ∧ (start .burst [failed]).settled = true ∧
      (start .burst [failed]).answerNow.bytes.length ≤ 6 ∧ (start .burst [failed]).answerNow.status = .fail) ∧
    (start .burst [okBurst (scenario.toList.take 5)]).answerNow.bytes.length < 6 := by decide
theorem witness_BurstState_ok :
    (start .burst [okBurst scenario.toList]).st = .burst ∧ (start .burst [okBurst scenario.toList]).settled = true ∧
    (start .burst [okBurst scenario.toList]).answerNow.status = .ok ∧
    (start .burst [okBurst scenario.toList]).answerNow.bytes = scenario.toList := by decide
theorem witness_DatapathStates_decode :
    (withRaw (start .decode []) scenario).st = .decode ∧ (withRaw (start .decode []) scenario).variant = .reference ∧
    (∃ t, exec .decode (withRaw (start .decode []) scenario) = .next t) ∧
    (withRaw { start .decode [] with variant := .historical } scenario).variant = .historical ∧
    (∃ t, exec .decode (withRaw { start .decode [] with variant := .historical } scenario) = .next t) :=
  ⟨rfl, rfl, ⟨_, rfl⟩, rfl, ⟨_, rfl⟩⟩
theorem witness_DatapathStates_scale :
    (withAx (start .scale []) 1#16 2#16 3#16).st = .scale ∧
    (∃ t, exec .scale (withAx (start .scale []) 1#16 2#16 3#16) = .next t) := ⟨rfl, ⟨_, rfl⟩⟩
theorem witness_DatapathStates_emit :
    (withAx (start .emit []) 1#16 2#16 3#16).st = .emit ∧
    (∃ t, exec .emit (withAx (start .emit []) 1#16 2#16 3#16) = .next t) := ⟨rfl, ⟨_, rfl⟩⟩
theorem witness_DoneState : (start .done []).st = .done := by decide

theorem witness_InitPath : (State.resetWith params).st = .settle := by decide
theorem witness_ConfigureIdempotent_ctrl1 :
    (start .cfg1Rd [okRead 0x57#8]).settled = true ∧ (start .cfg1Rd [okRead 0x57#8]).st = .cfg1Rd ∧
    (start .cfg1Rd [okRead 0x57#8]).answerNow.value = (start .cfg1Rd [okRead 0x57#8]).target1 ∧
    (start .cfg1Rd [okRead 0x07#8]).answerNow.value ≠ (start .cfg1Rd [okRead 0x07#8]).target1 ∧
    (start .cfg1Rd [okRead 0x07#8]).answerNow.status = .ok ∧
    (start .cfg1Rd [failed]).answerNow.status = .fail ∧ (start .cfg1Rd [failed]).onReadFail = .write ∧
    { start .cfg1Rd [failed] with onReadFail := .skip }.onReadFail = .skip := by decide
theorem witness_ConfigureIdempotent_ctrl4 :
    (start .cfg4Rd [okRead 0x00#8]).settled = true ∧ (start .cfg4Rd [okRead 0x00#8]).st = .cfg4Rd ∧
    (start .cfg4Rd [okRead 0x00#8]).answerNow.value = (start .cfg4Rd [okRead 0x00#8]).target4 ∧
    (start .cfg4Rd [okRead 0x08#8]).answerNow.value ≠ (start .cfg4Rd [okRead 0x08#8]).target4 ∧
    (start .cfg4Rd [okRead 0x08#8]).answerNow.status = .ok ∧
    (start .cfg4Rd [failed]).answerNow.status = .fail ∧ (start .cfg4Rd [failed]).onReadFail = .write ∧
    { start .cfg4Rd [failed] with onReadFail := .skip }.onReadFail = .skip := by decide

/-- A machine about to read the status register, with two answers. -/
def sampling (first second : Answer) : State := start .status [first, second]

theorem witness_SampleShapes_ab :
    (sampling failed failed).st = .status ∧ (sampling failed failed).settled = true ∧
    (sampling failed failed).answerNow.status = .fail ∧
    (sampling (okRead 0xF7#8) failed).answerNow.status = .ok ∧
    (sampling (okRead 0xF7#8) failed).answerNow.value.getLsbD 3 = false := by decide
theorem witness_SampleShapes_c :
    (sampling (okRead 0x08#8) failed).answerNow.status = .ok ∧
    (sampling (okRead 0x08#8) failed).answerNow.value.getLsbD 3 = true ∧
    (sampling (okRead 0x08#8) failed).dropAnswer.answerNow.status = .fail ∧
    (sampling (okRead 0x08#8) (okBurst [0#8])).dropAnswer.answerNow.bytes.length < 6 := by decide
theorem witness_SampleShapes_d :
    (sampling (okRead 0x08#8) (okBurst scenario.toList)).answerNow.status = .ok ∧
    (sampling (okRead 0x08#8) (okBurst scenario.toList)).answerNow.value.getLsbD 3 = true ∧
    (sampling (okRead 0x08#8) (okBurst scenario.toList)).dropAnswer.answerNow.status = .ok ∧
    (sampling (okRead 0x08#8) (okBurst scenario.toList)).dropAnswer.answerNow.bytes.take 6 = scenario.toList := by decide

theorem witness_StepRunsDecodedOperation_direct :
    ((State.resetWith params).withFetchWord 32 0x90000000).direct = some 0x90000000#32 ∧
    ((State.resetWith params).withFetchWord 32 0x90000000).held = false ∧
    ((State.resetWith params).withFetchWord 32 0x90000000).turn = .direct 0x90000000#32 ∧
    decode 0x90000000#32 = .ok .rdyclr ∧
    ((State.resetWith params).withFetchWord 32 0).turn = .direct 0x00000000#32 ∧
    decode 0x00000000#32 = .error .reservedOp := by decide
theorem witness_StepRunsDecodedOperation_turns :
    ((start .idle []).turn = .sequencer ∧ decode (start .idle []).dropMove.opWord = .ok .waitrdy) ∧
    ({ eventIdle false true with moves := [.handler] }.turn = .handler ∧ decode handlerWord = .ok .evtack) ∧
    { eventIdle false true with moves := [.trigger] }.turn = .trigger ∧
    { eventIdle false true with moves := [.reset params] }.turn = .reset params := by decide
theorem witness_HandlerTurns : (eventIdle false true).direct = none := by decide
theorem witness_ResetValues : ∃ t, t = State.resetWith params := ⟨_, rfl⟩
theorem witness_RestartResets :
    { start .burst [] with moves := [.reset params] }.direct = none ∧
    { start .burst [] with moves := [.reset params] }.moveNow = .reset params := by decide
theorem witness_ParametersConstant :
    (∃ t, step (start .idle []) = .next t) ∧ (∀ p, (start .idle []).turn ≠ .reset p) :=
  ⟨⟨_, rfl⟩, fun _ h => nomatch h⟩
theorem witness_SamplingLoopNeverLeft :
    (∃ t, step (start .idle []) = .next t) ∧ (∀ p, (start .idle []).turn ≠ .reset p) ∧
    (start .idle []).st.inInit = false := ⟨⟨_, rfl⟩, (fun _ h => nomatch h), rfl⟩

/-- The status read that found new data. -/
def goodStatus : Event := .read1 Config.devAddr Config.regStatus .ok (some 0x08#8)

/-- A machine about to decode the scenario. -/
def decoding : State := { withRaw (start .decode []) scenario with history := [goodStatus, sampleBurst scenario] }

/-- A machine that has emitted the scenario's frame. -/
def emitted : State :=
  { start .done [] with history := [goodStatus, sampleBurst scenario, .frame (frameOfSample .reference .normal scenario)] }

/-- A machine about to emit the scenario's frame. -/
def emitting : State :=
  { withAx (start .emit []) 1024#16 512#16 256#16 with history := [goodStatus, sampleBurst scenario] }

theorem witness_WiredMachineNeverStops : decoding.Wired ∧ decoding.Ready := by
  refine ⟨rfl, fun _ => rfl, fun _ => rfl, fun h => ?_⟩
  rcases h with h | h <;> exact nomatch h
theorem witness_FramesShapedKept : emitting.FramesShaped ∧ ∃ t, step emitting = .next t := by
  refine ⟨fun bytes h => ?_, _, rfl⟩
  simp [emitting, goodStatus, sampleBurst] at h
theorem witness_FramesShapedKept_frame : emitted.FramesShaped ∧ ∃ t, step emitted = .next t := by
  refine ⟨fun bytes h => ?_, _, rfl⟩
  simp only [emitted, goodStatus, sampleBurst, List.mem_cons, reduceCtorEq, Event.frame.injEq, List.not_mem_nil,
    or_false, false_or] at h
  subst h
  exact ⟨rfl, rfl, rfl⟩
theorem witness_FramesFromBurstsKept :
    emitting.Wired ∧ emitting.FramesFromBursts ∧ emitting.SampleInFlight ∧ ∃ t, step emitting = .next t := by
  refine ⟨rfl, fun pre bytes post h => ?_, ⟨(fun h => nomatch h), (fun h => nomatch h), fun _ => ?_⟩, _, rfl⟩
  · have hm : Event.frame bytes ∈ emitting.history := by rw [h]; simp
    simp [emitting, goodStatus, sampleBurst] at hm
  · exact ⟨[goodStatus], scenario, rfl, by decide⟩
theorem witness_BurstsAfterStatusKept :
    { start .burst [failed] with history := [goodStatus] }.Wired ∧
    { start .burst [failed] with history := [goodStatus] }.BurstsAfterStatus ∧
    ∃ t, step { start .burst [failed] with history := [goodStatus] } = .next t := by
  refine ⟨rfl, ⟨fun pre dev st count status bytes post h => ?_, fun _ => ⟨[], goodStatus, rfl, 0x08#8, rfl, by decide⟩⟩,
    _, rfl⟩
  have hm : Event.readN dev st count status bytes ∈ [goodStatus] := by
    rw [show [goodStatus] = _ from h]; simp
  simp [goodStatus] at hm
theorem witness_RequestsWiredKept : decoding.Wired ∧ decoding.RequestsWired ∧ ∃ t, step decoding = .next t := by
  refine ⟨rfl, fun e h => ?_, _, rfl⟩
  simp only [decoding, List.mem_cons, List.not_mem_nil, or_false] at h
  rcases h with rfl | rfl
  · exact ⟨rfl, .inr (.inr rfl)⟩
  · exact ⟨rfl, rfl, rfl⟩
theorem witness_WritesOnceKept :
    (start .cfg4Wr [failed]).Wired ∧ (start .cfg4Wr [failed]).WritesOnce ∧
    ∃ t, step (start .cfg4Wr [failed]) = .next t :=
  ⟨rfl, by unfold State.WritesOnce State.writesTo; decide, _, rfl⟩
theorem witness_PolledRdyKept :
    { start .burst [failed] with rdy := true }.PolledRdyLocal ∧
    ∃ t, step { start .burst [failed] with rdy := true } = .next t := ⟨fun _ _ => rfl, _, rfl⟩
theorem witness_AxRangedKept :
    (withAx (start .scale []) 511#16 0xFE00#16 0#16).Wired ∧ (withAx (start .scale []) 511#16 0xFE00#16 0#16).AxRanged ∧
    ∃ t, step (withAx (start .scale []) 511#16 0xFE00#16 0#16) = .next t := by
  refine ⟨rfl, ⟨fun _ => ⟨rfl, 511#16, 0xFE00#16, 0#16, rfl, ?_⟩, fun h => nomatch h⟩, _, rfl⟩
  unfold withAx start countRange State.resetWith params
  decide
theorem witness_InitRecordedKept :
    { start .cfg4Rd [failed] with initStat := ⟨.ok, .notIssued, .notIssued, .notIssued⟩ }.InitRecorded ∧
    ∃ t, step { start .cfg4Rd [failed] with initStat := ⟨.ok, .notIssued, .notIssued, .notIssued⟩ } = .next t :=
  ⟨⟨fun _ _ => by decide, fun h => nomatch h⟩, _, rfl⟩

end Sys2Proof.Tests
end

section
/-! The state's data registers over a sampling step (10_state.md R24), and its values after reset (R41). -/

namespace Sys2Proof.Machine

/-! ### Arithmetic of the datapath -/

/-- `decode_axis` is floor division by a power of two (R136, R138). -/
theorem toInt_decodeAxis (m : Mode) (r : Half) : (decodeAxis m r).toInt = r.toInt / 2 ^ shiftOf m := by
  simp [decodeAxis, BitVec.toInt_sshiftRight, Int.shiftRight_eq_div_pow]

/-- Whatever the raw pair, a decoded axis is a count of the mode (R24, R138). -/
theorem countRange_decodeAxis (m : Mode) (r : Half) : countRange m (decodeAxis m r) := by
  have hlo : -2 ^ 15 ≤ r.toInt := BitVec.le_toInt r
  have hhi : r.toInt < 2 ^ 15 := BitVec.toInt_lt
  cases m <;> simp only [countRange, toInt_decodeAxis, shiftOf] <;> omega

/-- The product of a count and the sensitivity fits in 16 signed bits, so `scale_axis` keeps all of it (R24, R139). -/
theorem toInt_scaleAxis {m : Mode} {v : Half} (h : countRange m v) :
    (scaleAxis m v).toInt = v.toInt * sensOf m := by
  refine BitVec.toInt_ofInt_eq_self (by decide) ?lower ?upper <;>
    cases m <;> simp only [countRange, sensOf] at * <;> omega

/-- A scaled count is a milli-g value of the mode: in its range, and a multiple of the sensitivity (R24). -/
theorem milliGRange_scaleAxis {m : Mode} {v : Half} (h : countRange m v) : milliGRange m (scaleAxis m v) := by
  have hprod := toInt_scaleAxis h
  cases m <;> simp only [countRange, milliGRange, sensOf] at * <;> omega

/-! ### The ranges of `AX` (R24) -/

/-- Settles O23: `DECODE` and `SCALE` apply `decodeAxis` and `scaleAxis` to each axis, and those have the ranges. -/
theorem axisRanges : Obligations.AxisRanges := by
  unfold Obligations.AxisRanges
  constructor
  · intro s t hstep
    obtain ⟨b, -, rfl⟩ := execDecode_eq_next hstep
    exact ⟨_, _, _, rfl, countRange_decodeAxis _ _, countRange_decodeAxis _ _, countRange_decodeAxis _ _⟩
  · intro s t x y z hax hx hy hz hstep
    obtain ⟨a, ha, rfl⟩ := execScale_eq_next hstep
    obtain rfl : #v[x, y, z] = a := Option.some.inj ((axValues_axOf hax).symm.trans ha)
    exact ⟨_, _, _, rfl, milliGRange_scaleAxis hx, milliGRange_scaleAxis hy, milliGRange_scaleAxis hz,
      toInt_scaleAxis hx, toInt_scaleAxis hy, toInt_scaleAxis hz⟩

/-! ### The values after reset (R41) -/

/-- No transaction issued is `INITSTAT` = 0x00 (R34, R41). -/
theorem toByte_reset : InitStat.reset.toByte = 0x00#8 := by decide

/-- After reset nothing has written `RAW` (R22, R41). -/
theorem raw_resetWith (p : Params) : (State.resetWith p).raw = .replicate 6 .invalid := rfl

/-- After reset nothing has written `AX` (R22, R41). -/
theorem ax_resetWith (p : Params) : (State.resetWith p).ax = .replicate 3 .invalid := rfl

/-- After reset nothing has written `FRAME` (R22, R41). -/
theorem frame_resetWith (p : Params) : (State.resetWith p).frame = .replicate 8 .invalid := rfl

/-- Settles O47: `State.resetWith` writes every element out; the register arrays are `invalid` throughout. -/
theorem resetValues : Obligations.ResetValues := by
  rintro p t rfl
  have hraw (i : Nat) (hi : i < 6) : (State.resetWith p).raw[i] = .invalid := by simp [raw_resetWith]
  have hax (i : Nat) (hi : i < 3) : (State.resetWith p).ax[i] = .invalid := by simp [ax_resetWith]
  have hframe (i : Nat) (hi : i < 8) : (State.resetWith p).frame[i] = .invalid := by simp [frame_resetWith]
  exact ⟨rfl, rfl, rfl, rfl, rfl, toByte_reset, rfl, rfl, rfl, rfl, rfl, hraw, hax, hframe, rfl, rfl⟩

end Sys2Proof.Machine
end

section
/-! What the decoder answers for every op word (30_encoding.md R81 to R88): the operation of the row the word satisfies
(R86), or a refusal by name (R88); and the op words the machine issues (R87). -/

namespace Sys2Proof

/-! ### An op word is its fields (R83, R84) -/

/-- The fields of format B cover the word. -/
theorem OpWord.eq_of_formatB_fields {w w' : OpWord} (hop : w.op = w'.op) (hz5 : w.z5 = w'.z5) (hdev : w.dev = w'.dev)
    (hreg : w.reg = w'.reg) (harg : w.arg = w'.arg) : w = w' := by
  simp only [OpWord.op, OpWord.z5, OpWord.dev, OpWord.reg, OpWord.arg, ← BitVec.toNat_inj, BitVec.extractLsb'_toNat,
    Nat.shiftRight_eq_div_pow] at *
  omega

/-- The fields of format N cover the word. -/
theorem OpWord.eq_of_formatN_fields {w w' : OpWord} (hop : w.op = w'.op) (hz28 : w.z28 = w'.z28) : w = w' := by
  simp only [OpWord.op, OpWord.z28, ← BitVec.toNat_inj, BitVec.extractLsb'_toNat, Nat.shiftRight_eq_div_pow] at *
  omega

@[simp] theorem op_encodeN (op : BitVec 4) : OpWord.op (encodeN op) = op := by
  ext i hi; interval_cases i <;> simp [OpWord.op, encodeN]

@[simp] theorem z28_encodeN (op : BitVec 4) : OpWord.z28 (encodeN op) = 0#28 := by
  ext i hi; simp [OpWord.z28, encodeN]; omega

/-- The format B word of an operation code and three operands is the one with these fields and `Z5` zero. -/
theorem eq_encodeB_iff {w : OpWord} {op : BitVec 4} {dev : DevAddr} {reg : RegAddr} {arg : Byte} :
    w = encodeB op dev reg arg ↔ w.op = op ∧ w.z5 = 0#5 ∧ w.dev = dev ∧ w.reg = reg ∧ w.arg = arg := by
  constructor
  · rintro rfl
    simp
  · rintro ⟨rfl, hz5, rfl, rfl, rfl⟩
    apply OpWord.eq_of_formatB_fields <;> simp [hz5]

/-- The format N word of an operation code is the one with this code and `Z28` zero. -/
theorem eq_encodeN_iff {w : OpWord} {op : BitVec 4} : w = encodeN op ↔ w.op = op ∧ w.z28 = 0#28 := by
  constructor
  · rintro rfl
    simp
  · rintro ⟨rfl, hz28⟩
    apply OpWord.eq_of_formatN_fields <;> simp [hz28]

/-- `ARG` is the low byte of the word. -/
theorem OpWord.arg_toNat (w : OpWord) : w.arg.toNat = w.toNat % 256 := by simp [OpWord.arg]

/-! ### The decoder's dispatch on `OP` (R86, R88) -/

/-- The codes of the map: three of format B, seven of format N, and the reserved ones (R81, R88). -/
theorem OpWord.op_cases (w : OpWord) :
    w.op = 0x1#4 ∨ w.op = 0x2#4 ∨ w.op = 0x3#4 ∨ (4 ≤ w.op.toNat ∧ w.op.toNat ≤ 0xA) ∨
      (w.op = 0x0#4 ∨ 0xB ≤ w.op.toNat) := by
  simp only [← BitVec.toNat_inj, BitVec.toNat_ofNat]
  omega

theorem decode_of_op_rdreg {w : OpWord} (h : w.op = 0x1#4) : decode w = decodeRdreg w := by simp [decode, h]

theorem decode_of_op_wrreg {w : OpWord} (h : w.op = 0x2#4) : decode w = decodeWrreg w := by simp [decode, h]

theorem decode_of_op_rdburst {w : OpWord} (h : w.op = 0x3#4) : decode w = decodeRdburst w := by simp [decode, h]

/-- A code of format N names one operation, whose word is that code alone; only `Z28` is left to check (R84). -/
theorem decode_of_op_formatN {w : OpWord} (hlo : 4 ≤ w.op.toNat) (hhi : w.op.toNat ≤ 0xA) :
    ∃ i, decode w = decodeN i w ∧ encode i = encodeN w.op ∧ i.wellFormed = true := by
  have hop : w.op = 0x4#4 ∨ w.op = 0x5#4 ∨ w.op = 0x6#4 ∨ w.op = 0x7#4 ∨ w.op = 0x8#4 ∨ w.op = 0x9#4 ∨
      w.op = 0xA#4 := by
    simp only [← BitVec.toNat_inj, BitVec.toNat_ofNat]
    omega
  rcases hop with h | h | h | h | h | h | h
  · exact ⟨.settle, by simp [decode, h], by rw [h, encode], rfl⟩
  · exact ⟨.waitrdy, by simp [decode, h], by rw [h, encode], rfl⟩
  · exact ⟨.decode, by simp [decode, h], by rw [h, encode], rfl⟩
  · exact ⟨.scale, by simp [decode, h], by rw [h, encode], rfl⟩
  · exact ⟨.emit, by simp [decode, h], by rw [h, encode], rfl⟩
  · exact ⟨.rdyclr, by simp [decode, h], by rw [h, encode], rfl⟩
  · exact ⟨.evtack, by simp [decode, h], by rw [h, encode], rfl⟩

theorem decode_of_op_reserved {w : OpWord} (h : w.op = 0x0#4 ∨ 0xB ≤ w.op.toNat) :
    decode w = .error .reservedOp := by
  have hne (c : BitVec 4) (hlo : 1 ≤ c.toNat) (hhi : c.toNat ≤ 0xA) : w.op ≠ c := by
    rintro rfl
    simp only [← BitVec.toNat_inj, BitVec.toNat_ofNat] at h
    omega
  simp [decode, hne]

/-! ### The checks of each format (R83, R84, R88) -/

theorem burstCountOk_iff {count : Byte} : burstCountOk count = true ↔ 1 ≤ count.toNat ∧ count.toNat ≤ 6 := by
  simp [burstCountOk, Config.burstLen]

theorem decodeRdreg_eq_ok {w : OpWord} {i : Instr} :
    decodeRdreg w = .ok i ↔ w.z5 = 0#5 ∧ w.arg = 0#8 ∧ .rdreg w.dev w.reg = i := by
  unfold decodeRdreg; split_ifs <;> simp_all

theorem decodeWrreg_eq_ok {w : OpWord} {i : Instr} :
    decodeWrreg w = .ok i ↔ w.z5 = 0#5 ∧ .wrreg w.dev w.reg w.arg = i := by
  unfold decodeWrreg; split_ifs <;> simp_all

theorem decodeRdburst_eq_ok {w : OpWord} {i : Instr} :
    decodeRdburst w = .ok i ↔ w.z5 = 0#5 ∧ burstCountOk w.arg = true ∧ .rdburst w.dev w.reg w.arg = i := by
  unfold decodeRdburst; split_ifs <;> simp_all

theorem decodeN_eq_ok {w : OpWord} {i j : Instr} : decodeN j w = .ok i ↔ w.z28 = 0#28 ∧ j = i := by
  unfold decodeN; split_ifs <;> simp_all

/-- The decoder answers an operation for its encoding alone, and never an ill-formed one. -/
theorem decode_eq_ok {w : OpWord} {i : Instr} : decode w = .ok i ↔ w = encode i ∧ i.wellFormed = true := by
  constructor
  case mpr =>
    rintro ⟨rfl, hwf⟩
    cases i
    case rdreg => simp [decode, encode, decodeRdreg]
    case wrreg => exact Machine.decode_encode_wrreg _ _ _
    case rdburst => simp_all [decode, encode, decodeRdburst, Instr.wellFormed]
    all_goals decide
  case mp =>
    intro h
    rcases w.op_cases with hop | hop | hop | ⟨hlo, hhi⟩ | hop
    · obtain ⟨hz5, harg, rfl⟩ := decodeRdreg_eq_ok.mp (decode_of_op_rdreg hop ▸ h)
      exact ⟨eq_encodeB_iff.mpr ⟨hop, hz5, rfl, rfl, harg⟩, rfl⟩
    · obtain ⟨hz5, rfl⟩ := decodeWrreg_eq_ok.mp (decode_of_op_wrreg hop ▸ h)
      exact ⟨eq_encodeB_iff.mpr ⟨hop, hz5, rfl, rfl, rfl⟩, rfl⟩
    · obtain ⟨hz5, hcount, rfl⟩ := decodeRdburst_eq_ok.mp (decode_of_op_rdburst hop ▸ h)
      exact ⟨eq_encodeB_iff.mpr ⟨hop, hz5, rfl, rfl, rfl⟩, hcount⟩
    · obtain ⟨j, hj, henc, hwf⟩ := decode_of_op_formatN hlo hhi
      obtain ⟨hz28, rfl⟩ := decodeN_eq_ok.mp (hj ▸ h)
      exact ⟨henc ▸ eq_encodeN_iff.mpr ⟨rfl, hz28⟩, hwf⟩
    · simp [decode_of_op_reserved hop] at h

/-! ### The opcode map (R86) -/

@[simp] theorem OpWord.op_and (w m : OpWord) : OpWord.op (w &&& m) = w.op &&& m.op := BitVec.extractLsb'_and
@[simp] theorem OpWord.z5_and (w m : OpWord) : OpWord.z5 (w &&& m) = w.z5 &&& m.z5 := BitVec.extractLsb'_and
@[simp] theorem OpWord.dev_and (w m : OpWord) : OpWord.dev (w &&& m) = w.dev &&& m.dev := BitVec.extractLsb'_and
@[simp] theorem OpWord.reg_and (w m : OpWord) : OpWord.reg (w &&& m) = w.reg &&& m.reg := BitVec.extractLsb'_and
@[simp] theorem OpWord.arg_and (w m : OpWord) : OpWord.arg (w &&& m) = w.arg &&& m.arg := BitVec.extractLsb'_and

/-- A format B row: its mask covers `OP` and `Z5`, leaves `DEV` and `REG` open, and covers `ARG` as far as `a` says. -/
theorem and_mask_eq_iff {w m : OpWord} {op : BitVec 4} {a : Byte} (hop : m.op = .allOnes 4) (hz5 : m.z5 = .allOnes 5)
    (hdev : m.dev = 0#7) (hreg : m.reg = 0#8) (harg : m.arg = a) :
    w &&& m = encodeB op 0#7 0#8 0#8 ↔ w.op = op ∧ w.z5 = 0#5 ∧ w.arg &&& a = 0#8 := by
  rw [eq_encodeB_iff, OpWord.op_and, OpWord.z5_and, OpWord.dev_and, OpWord.reg_and, OpWord.arg_and, hop, hz5, hdev,
    hreg, harg, BitVec.and_allOnes, BitVec.and_allOnes]
  simp

/-- The row of `WRREG` and `RDBURST` leaves `ARG` open. -/
theorem and_mask_openArg_eq_iff {w : OpWord} {op : BitVec 4} :
    w &&& 0xFF800000#32 = encodeB op 0#7 0#8 0#8 ↔ w.op = op ∧ w.z5 = 0#5 := by
  rw [and_mask_eq_iff (a := 0#8) rfl rfl rfl rfl rfl]
  simp

/-- `RDREG`'s row covers `ARG`. -/
theorem and_mask_zeroArg_eq_iff {w : OpWord} {op : BitVec 4} :
    w &&& 0xFF8000FF#32 = encodeB op 0#7 0#8 0#8 ↔ w.op = op ∧ w.z5 = 0#5 ∧ w.arg = 0#8 := by
  rw [and_mask_eq_iff (a := .allOnes 8) rfl rfl rfl rfl rfl, BitVec.and_allOnes]

theorem decode_eq_rdreg_iff (w : OpWord) :
    (∃ dev reg, decode w = .ok (.rdreg dev reg)) ↔ w &&& 0xFF8000FF#32 = 0x10000000#32 := by
  have hrow : 0x10000000#32 = encodeB 0x1#4 0#7 0#8 0#8 := by decide
  rw [hrow, and_mask_zeroArg_eq_iff]
  simp [decode_eq_ok, encode, eq_encodeB_iff, Instr.wellFormed]

theorem decode_eq_wrreg_iff (w : OpWord) :
    (∃ dev reg value, decode w = .ok (.wrreg dev reg value)) ↔ w &&& 0xFF800000#32 = 0x20000000#32 := by
  have hrow : 0x20000000#32 = encodeB 0x2#4 0#7 0#8 0#8 := by decide
  rw [hrow, and_mask_openArg_eq_iff]
  simp [decode_eq_ok, encode, eq_encodeB_iff, Instr.wellFormed]

/-- `RDBURST`'s row has a further check, on the count in `ARG`. -/
theorem decode_eq_rdburst_iff (w : OpWord) :
    (∃ dev start count, decode w = .ok (.rdburst dev start count)) ↔
      w &&& 0xFF800000#32 = 0x30000000#32 ∧ 1 ≤ w.toNat % 256 ∧ w.toNat % 256 ≤ 6 := by
  have hrow : 0x30000000#32 = encodeB 0x3#4 0#7 0#8 0#8 := by decide
  rw [hrow, and_mask_openArg_eq_iff, ← OpWord.arg_toNat, ← burstCountOk_iff]
  simp [decode_eq_ok, encode, eq_encodeB_iff, Instr.wellFormed, and_assoc]

/-- A row whose mask covers the whole word is satisfied by its operation's encoding alone. -/
theorem decode_eq_ok_iff_and_allOnes {i : Instr} {row : OpWord} (henc : encode i = row) (hwf : i.wellFormed = true)
    (w : OpWord) : decode w = .ok i ↔ w &&& 0xFFFFFFFF#32 = row := by
  have hmask : w &&& 0xFFFFFFFF#32 = w := BitVec.and_allOnes
  rw [decode_eq_ok, henc, hmask, and_iff_left hwf]

/-- Settles O3: a decoded word is the encoding of its operation, and each row says which words those are. -/
theorem opcodeMapSelects : Obligations.OpcodeMapSelects := fun w =>
  ⟨decode_eq_rdreg_iff w, decode_eq_wrreg_iff w, decode_eq_rdburst_iff w, decode_eq_ok_iff_and_allOnes rfl rfl w,
    decode_eq_ok_iff_and_allOnes rfl rfl w, decode_eq_ok_iff_and_allOnes rfl rfl w,
    decode_eq_ok_iff_and_allOnes rfl rfl w, decode_eq_ok_iff_and_allOnes rfl rfl w,
    decode_eq_ok_iff_and_allOnes rfl rfl w, decode_eq_ok_iff_and_allOnes rfl rfl w⟩

/-! ### Refusals (R88) -/

/-- A format B word with `Z5` not zero is refused for it, whatever else is wrong with it (log 24). -/
theorem decode_of_z5_ne_zero {w : OpWord} (hlo : 1 ≤ w.op.toNat) (hhi : w.op.toNat ≤ 3) (hz5 : w.z5 ≠ 0#5) :
    decode w = .error .nonzeroZ5 := by
  have hop : w.op = 0x1#4 ∨ w.op = 0x2#4 ∨ w.op = 0x3#4 := by
    simp only [← BitVec.toNat_inj, BitVec.toNat_ofNat]
    omega
  rcases hop with h | h | h
  · simp [decode_of_op_rdreg h, decodeRdreg, hz5]
  · simp [decode_of_op_wrreg h, decodeWrreg, hz5]
  · simp [decode_of_op_rdburst h, decodeRdburst, hz5]

theorem decode_rdreg_of_arg_ne_zero {w : OpWord} (hop : w.op = 0x1#4) (hz5 : w.z5 = 0#5) (harg : w.arg ≠ 0#8) :
    decode w = .error .nonzeroArg := by
  simp [decode_of_op_rdreg hop, decodeRdreg, hz5, harg]

theorem decode_formatN_of_z28_ne_zero {w : OpWord} (hlo : 4 ≤ w.op.toNat) (hhi : w.op.toNat ≤ 0xA)
    (hz28 : w.z28 ≠ 0#28) : decode w = .error .nonzeroZ28 := by
  obtain ⟨i, hi, -⟩ := decode_of_op_formatN hlo hhi
  simp [hi, decodeN, hz28]

theorem decode_rdburst_of_count {w : OpWord} (hop : w.op = 0x3#4) (hz5 : w.z5 = 0#5)
    (hcount : w.arg = 0#8 ∨ 6 < w.arg.toNat) : decode w = .error .burstCount := by
  have hbad : ¬ burstCountOk w.arg = true := by
    rw [burstCountOk_iff]
    rcases hcount with h | h
    · simp [h]
    · omega
  simp [decode_of_op_rdburst hop, decodeRdburst, hz5, hbad]

/-- Settles O5: one refusal per class of words, and a unit has no step where the decoder refuses. -/
theorem illegalOpWordsRefused : Obligations.IllegalOpWordsRefused := fun _ =>
  ⟨decode_of_op_reserved, fun hlo hhi hz5 => ⟨_, decode_of_z5_ne_zero hlo hhi hz5, fun _ => rfl⟩,
    decode_rdreg_of_arg_ne_zero, decode_formatN_of_z28_ne_zero, decode_rdburst_of_count,
    fun e he s => by simp [Machine.runWord, he]⟩

/-! ### The op words the machine issues (R87) -/

/-- The value of a write is the low byte of its word, over the word of the same write of zero. -/
theorem encode_wrreg_eq_or (dev : DevAddr) (reg : RegAddr) (value : Byte) :
    encode (.wrreg dev reg value) = encode (.wrreg dev reg 0#8) ||| value.setWidth 32 := by
  simp [encode, encodeB]

/-- Settles O7: the two writes carry their target in the low byte, and every other word is a constant. -/
theorem wiredOpWords : Obligations.WiredOpWords := by
  refine ⟨fun s => ?_, by decide⟩
  unfold Machine.State.opWord Machine.State.issue
  cases s.st
  case cfg1Wr =>
    have hword : encode (.wrreg Config.devAddr Config.regCtrl1 0#8) = 0x20182000#32 := by decide
    rw [encode_wrreg_eq_or, hword]; rfl
  case cfg4Wr =>
    have hword : encode (.wrreg Config.devAddr Config.regCtrl4 0#8) = 0x20182300#32 := by decide
    rw [encode_wrreg_eq_or, hword]; rfl
  all_goals rfl

end Sys2Proof
end

section
/-! The Register Access Adapter (40_adapter.md R111 to R113): what each operation answers in every case that the settle
delay, the count and the transport's answer can make, said through the transport calls of Machine/Ops.lean. -/

namespace Sys2Proof.Machine

/-! ### A single read and a single write (R111, R112) -/

section single
variable {s : State} (dev : DevAddr) (reg : RegAddr) (value : Byte)

theorem exec_rdreg_of_ok (hs : s.settled = true) (ha : s.answerNow.status = .ok) :
    exec (.rdreg dev reg) s = .next { s.busRead1 dev reg with ts := .ok, v := .val s.answerNow.value } := by
  simp [exec, execRdreg, whenSettled_of_settled hs, ha]

theorem exec_rdreg_of_fail (hs : s.settled = true) (ha : s.answerNow.status = .fail) :
    exec (.rdreg dev reg) s =
      .next ({ s.busRead1 dev reg with ts := .fail, v := .invalid }.raise .transportFailure) := by
  simp [exec, execRdreg, whenSettled_of_settled hs, ha]

theorem exec_rdreg_of_not_settled (hs : s.settled = false) : exec (.rdreg dev reg) s = .refused .notSettled :=
  whenSettled_of_not_settled hs _

theorem exec_wrreg_of_ok (hs : s.settled = true) (ha : s.answerNow.status = .ok) :
    exec (.wrreg dev reg value) s = .next { s.busWrite1 dev reg value with ts := .ok } := by
  simp [exec, execWrreg, whenSettled_of_settled hs, ha]

theorem exec_wrreg_of_fail (hs : s.settled = true) (ha : s.answerNow.status = .fail) :
    exec (.wrreg dev reg value) s =
      .next ({ s.busWrite1 dev reg value with ts := .fail }.raise .transportFailure) := by
  simp [exec, execWrreg, whenSettled_of_settled hs, ha]

theorem exec_wrreg_of_not_settled (hs : s.settled = false) :
    exec (.wrreg dev reg value) s = .refused .notSettled :=
  whenSettled_of_not_settled hs _

/-- With `OK` the history keeps the delivered value (R60, R8). -/
theorem State.busRead1_of_ok (ha : s.answerNow.status = .ok) :
    s.busRead1 dev reg = s.dropAnswer.record (.read1 dev reg .ok (some s.answerNow.value)) := by
  simp [State.busRead1, Answer.readValue, ha]

/-- With `FAIL` the history has no value (R60, R8). -/
theorem State.busRead1_of_fail (ha : s.answerNow.status = .fail) :
    s.busRead1 dev reg = s.dropAnswer.record (.read1 dev reg .fail none) := by
  simp [State.busRead1, Answer.readValue, ha]

end single

/-- Settles O10: the answer's status decides what `TS`, `V` and the history's entry are. -/
theorem rdregResult : Obligations.RdregResult := by
  intro dev reg s
  refine ⟨rfl, fun hs ha => ?ok, fun hs ha => ?fail, exec_rdreg_of_not_settled dev reg⟩
  case ok => rw [exec_rdreg_of_ok dev reg hs ha, State.busRead1_of_ok dev reg ha]; rfl
  case fail => rw [exec_rdreg_of_fail dev reg hs ha, State.busRead1_of_fail dev reg ha]; rfl

/-- Settles O11: `TS` is the answer's status, which is also what the history's entry holds. -/
theorem wrregResult : Obligations.WrregResult := by
  intro dev reg value s
  refine ⟨rfl, fun hs ha => ?ok, fun hs ha => ?fail, exec_wrreg_of_not_settled dev reg value⟩
  case ok => rw [exec_wrreg_of_ok dev reg value hs ha, State.busWrite1, ha]; rfl
  case fail => rw [exec_wrreg_of_fail dev reg value hs ha, State.busWrite1, ha]; rfl

/-! ### What a burst delivers, and where it goes (R64, R113, R117) -/

/-- An answer that keeps to `count` bytes is delivered whole (R64). -/
theorem burstBytes_of_length_le {a : Answer} {count : Byte} (h : a.bytes.length ≤ count.toNat) :
    Answer.burstBytes a count = a.bytes := List.take_of_length_le h

@[simp] theorem getElem_fillRaw (bytes : List Byte) (raw : Vector (Datum 8) 6) (i : Nat) (hi : i < 6) :
    (fillRaw bytes raw)[i] = rawSlot bytes i raw[i] := by
  interval_cases i <;> rfl

theorem rawSlot_of_lt {bytes : List Byte} {i : Nat} (h : i < bytes.length) (old : Datum 8) :
    rawSlot bytes i old = .val bytes[i] := by
  simp [rawSlot, h]

theorem rawSlot_of_length_le {bytes : List Byte} {i : Nat} (h : bytes.length ≤ i) (old : Datum 8) :
    rawSlot bytes i old = old := by
  simp [rawSlot, h]

/-! ### A burst (R113) -/

section burst
variable {s : State} (dev : DevAddr) (start : RegAddr) {count : Byte}

theorem exec_rdburst_of_complete (hc : burstCountOk count = true) (hs : s.settled = true)
    (ha : burstStatus s.answerNow count = .ok) :
    exec (.rdburst dev start count) s = .next { s.busReadN dev start count with
      ts := .ok, raw := fillRaw (Answer.burstBytes s.answerNow count) s.raw } := by
  simp [exec, execRdburst, whenSettled_of_settled hs, hc, ha]

theorem exec_rdburst_of_failed (hc : burstCountOk count = true) (hs : s.settled = true)
    (ha : burstStatus s.answerNow count = .fail) :
    exec (.rdburst dev start count) s =
      .next ({ s.busReadN dev start count with ts := .fail, raw := rawInvalid }.raise .transportFailure) := by
  simp [exec, execRdburst, whenSettled_of_settled hs, hc, ha]

theorem exec_rdburst_of_not_settled (hc : burstCountOk count = true) (hs : s.settled = false) :
    exec (.rdburst dev start count) s = .refused .notSettled := by
  simp [exec, execRdburst, whenSettled_of_not_settled hs, hc]

/-- An ill-formed count is refused whether or not the settle delay has elapsed (log 23). -/
theorem exec_rdburst_of_illFormed (hc : ¬ burstCountOk count = true) :
    exec (.rdburst dev start count) s = .refused .burstCount := by
  simp [exec, execRdburst, hc]

end burst

/-- Settles O12: the burst's status is `OK` exactly for a complete burst; the delivered bytes then fill `RAW` from the
start, and past them every place keeps what it held. -/
theorem rdburstResult : Obligations.RdburstResult := by
  intro dev start count s
  refine ⟨rfl, fun h1 h6 hs ha hlen => ?complete, fun h1 h6 hs hle ha => ?failed, fun h1 h6 hs => ?unsettled,
    fun hbad _ => ?badCount⟩
  case complete =>
    have hbytes := burstBytes_of_length_le hlen.le
    have hstatus : burstStatus s.answerNow count = .ok := burstStatus_eq_ok.mpr ⟨ha, by rw [hbytes, hlen]⟩
    refine ⟨fillRaw s.answerNow.bytes s.raw, ?_, fun i hi hlt => ?_, fun i hi hge => ?_⟩
    · rw [exec_rdburst_of_complete dev start (burstCountOk_iff.mpr ⟨h1, h6⟩) hs hstatus, State.busReadN, hbytes, ha]
      rfl
    · have hlt' : i < s.answerNow.bytes.length := hlen ▸ hlt
      exact ⟨_, List.getElem?_eq_getElem hlt', by rw [getElem_fillRaw, rawSlot_of_lt hlt']⟩
    · rw [getElem_fillRaw, rawSlot_of_length_le (hlen ▸ hge)]
  case failed =>
    have hbytes := burstBytes_of_length_le hle
    have hstatus : burstStatus s.answerNow count = .fail := by
      rw [burstStatus_eq_fail, hbytes]
      rintro ⟨hok, hlen⟩
      rcases ha with hfail | hshort
      · simp [hok] at hfail
      · omega
    rw [exec_rdburst_of_failed dev start (burstCountOk_iff.mpr ⟨h1, h6⟩) hs hstatus, State.busReadN, hbytes]
    rfl
  case unsettled => exact exec_rdburst_of_not_settled dev start (burstCountOk_iff.mpr ⟨h1, h6⟩) hs
  case badCount =>
    refine exec_rdburst_of_illFormed dev start fun hc => ?_
    obtain ⟨h1, h6⟩ := burstCountOk_iff.mp hc
    omega

end Sys2Proof.Machine
end

section
/-! The Device Controller's operations (41_controller.md R131, R136 to R141): `SETTLE`, what `DECODE` and `SCALE` answer with
values and without, and the two of them composed. -/

namespace Sys2Proof.Machine

/-! ### `SETTLE` (R131) -/

/-- Settles O17: with `SETTLED = 1` the update writes the value that is there. -/
theorem settleResult : Obligations.SettleResult := by
  refine ⟨by decide, fun s => ⟨rfl, fun hs => ?again⟩⟩
  case again =>
    have hsame : { s with settled := true } = s := by rw [← hs]
    exact congrArg _ hsame

/-! ### The combine and the decode (R136 to R138) -/

/-- The two bytes do not overlap, so the bitwise or adds them (R138). -/
theorem toNat_combine (lo hi : Byte) : (combine lo hi).toNat = lo.toNat + 256 * hi.toNat := by
  have happend : combine lo hi = hi ++ lo := by
    rw [BitVec.append_def, BitVec.or_comm, BitVec.shiftLeftZeroExtend_eq, BitVec.setWidth'_eq]; rfl
  rw [happend, BitVec.toNat_append, ← Nat.shiftLeft_add_eq_or_of_lt lo.isLt, Nat.shiftLeft_eq]
  omega

theorem combine_eq_ofNat (lo hi : Byte) : combine lo hi = BitVec.ofNat 16 (lo.toNat + 256 * hi.toNat) := by
  rw [← toNat_combine, BitVec.ofNat_toNat, BitVec.setWidth_eq]

/-- A decoded pair is the floor of the little-endian pair, read as signed 16 bits (R136). -/
theorem toInt_decodeAxis_combine (m : Mode) (lo hi : Byte) :
    (decodeAxis m (combine lo hi)).toInt = (BitVec.ofNat 16 (lo.toNat + 256 * hi.toNat)).toInt /
      (match m with | .normal => 64 | .highResolution => 16) := by
  rw [toInt_decodeAxis, combine_eq_ofNat]
  cases m <;> rfl

/-! ### `DECODE` and `SCALE` on values and on `invalid` registers (R22, R136, R139) -/

/-- One `invalid` place of `RAW`, and it does not read as six bytes (R22). -/
theorem rawBytes_eq_none {s : State} (h : ∃ (i : Nat) (hi : i < 6), s.raw[i] = .invalid) : s.rawBytes = none := by
  obtain ⟨i, hi, hinvalid⟩ := h
  refine Option.eq_none_iff_forall_ne_some.mpr fun b hb => ?_
  simp [rawBytes_eq_some.mp hb] at hinvalid

/-- One `invalid` place of `AX`, and it does not read as three values (R22). -/
theorem axValues_eq_none {s : State} (h : ∃ (i : Nat) (hi : i < 3), s.ax[i] = .invalid) : s.axValues = none := by
  obtain ⟨i, hi, hinvalid⟩ := h
  refine Option.eq_none_iff_forall_ne_some.mpr fun a ha => ?_
  have hval : s.ax[i] = .val a[i] := by
    simp only [axValues_eq_some.mp ha]; interval_cases i <;> rfl
  simp [hval] at hinvalid

theorem exec_decode_of_raw {s : State} {b : Vector Byte 6} (h : s.raw = b.map Datum.val) :
    exec .decode s = .next { s with
      ax := axOf (decodeAxis s.cfgMode (combine b[0] b[1])) (decodeAxis s.cfgMode (combine b[2] b[3]))
        (decodeAxis s.cfgMode (combine b[4] b[5])) } := by
  simp [exec, execDecode, rawBytes_eq_some.mpr h]

theorem exec_decode_of_invalid {s : State} (h : ∃ (i : Nat) (hi : i < 6), s.raw[i] = .invalid) :
    exec .decode s = .fault (.invalidRead .raw) := by
  simp [exec, execDecode, rawBytes_eq_none h]

theorem exec_scale_of_ax {s : State} {x y z : Half} (h : s.ax = axOf x y z) :
    exec .scale s = .next { s with
      ax := axOf (scaleAxis s.cfgMode x) (scaleAxis s.cfgMode y) (scaleAxis s.cfgMode z) } := by
  simp [exec, execScale, axValues_axOf h]

theorem exec_scale_of_invalid {s : State} (h : ∃ (i : Nat) (hi : i < 3), s.ax[i] = .invalid) :
    exec .scale s = .fault (.invalidRead .ax) := by
  simp [exec, execScale, axValues_eq_none h]

/-- Axis `i` after `DECODE` is decoded from its own two places of `RAW` (R138). -/
theorem exec_decode_ax {s t : State} (h : exec .decode s = .next t) :
    ∃ b : Vector Byte 6, s.raw = b.map Datum.val ∧
      ∀ (i : Nat) (hi : i < 3), t.ax[i] = .val (decodeAxis s.cfgMode (combine b[2 * i] b[2 * i + 1])) := by
  obtain ⟨b, hb, rfl⟩ := execDecode_eq_next h
  refine ⟨b, rawBytes_eq_some.mp hb, fun i hi => ?_⟩
  interval_cases i <;> rfl

/-- Settles O18: each axis is the decoded pair, and a decoded pair is the floor. -/
theorem decodeResult : Obligations.DecodeResult :=
  ⟨by decide, fun _ _ hraw => ⟨_, _, _, exec_decode_of_raw hraw, toInt_decodeAxis_combine _ _ _,
    toInt_decodeAxis_combine _ _ _, toInt_decodeAxis_combine _ _ _⟩, fun _ => exec_decode_of_invalid⟩

/-- Settles O20: the ranges are those of the counts; an axis is the decoded pair of its own two bytes, so equal bytes in
the same mode give equal axes. -/
theorem decodeArithmetic : Obligations.DecodeArithmetic := by
  refine ⟨toNat_combine, fun r => ?twosComplement, toInt_decodeAxis, fun r => ?ranges,
    fun s s' t t' i hi hmode hlo hhi ht ht' => ?independent⟩
  case twosComplement =>
    rw [BitVec.toInt_eq_toNat_cond]
    split_ifs <;> omega
  case ranges =>
    obtain ⟨hlo, hhi⟩ := countRange_decodeAxis .normal r
    exact ⟨hlo, hhi, countRange_decodeAxis .highResolution r⟩
  case independent =>
    obtain ⟨b, hb, hax⟩ := exec_decode_ax ht
    obtain ⟨b', hb', hax'⟩ := exec_decode_ax ht'
    simp only [hb, hb', Vector.getElem_map, Datum.val.injEq] at hlo hhi
    rw [hax i hi, hax' i hi, hmode, hlo, hhi]

/-- Settles O21: the product is the one `scale_axis` takes, and a decoded axis is a count, whose product fits. -/
theorem scaleResult : Obligations.ScaleResult :=
  ⟨by decide, fun _ _ _ _ _ hax => exec_scale_of_ax hax, fun _ => exec_scale_of_invalid,
    fun m r => toInt_scaleAxis (countRange_decodeAxis m r)⟩

/-! ### Decode and scale composed (R141) -/

/-- Multiplying by 4 is a shift left by 2. -/
theorem scaleAxis_normal (v : Half) : scaleAxis .normal v = v <<< 2 := by
  rw [scaleAxis, sensOf, BitVec.ofInt_mul, BitVec.ofInt_toInt, BitVec.shiftLeft_eq_mul_twoPow]; rfl

/-- Multiplying by 2 is a shift left by 1. -/
theorem scaleAxis_highResolution (v : Half) : scaleAxis .highResolution v = v <<< 1 := by
  rw [scaleAxis, sensOf, BitVec.ofInt_mul, BitVec.ofInt_toInt, BitVec.shiftLeft_eq_mul_twoPow]; rfl

/-- Bit by bit: both sides hold bits 15 to 6 of the pair from bit 2 on, the sign above them, zeros below. -/
theorem scaleAxis_decodeAxis_normal (r : Half) :
    scaleAxis .normal (decodeAxis .normal r) = (r &&& ~~~(0x003F#16)).sshiftRight 4 := by
  rw [scaleAxis_normal, decodeAxis, shiftOf]
  ext i hi
  interval_cases i <;> simp [BitVec.getElem_sshiftRight, BitVec.msb_eq_getLsbD_last]

/-- Bit by bit: both sides hold bits 15 to 4 of the pair from bit 1 on, the sign above them, zeros below. -/
theorem scaleAxis_decodeAxis_highResolution (r : Half) :
    scaleAxis .highResolution (decodeAxis .highResolution r) = (r &&& ~~~(0x000F#16)).sshiftRight 3 := by
  rw [scaleAxis_highResolution, decodeAxis, shiftOf]
  ext i hi
  interval_cases i <;> simp [BitVec.getElem_sshiftRight, BitVec.msb_eq_getLsbD_last]

/-- Settles O24: the composition is one shift of the cleared pair, and the scaled count is a milli-g value, hence a
multiple of the sensitivity. -/
theorem scaleOfDecode : Obligations.ScaleOfDecode := by
  have hrange (m : Mode) (r : Half) : milliGRange m (scaleAxis m (decodeAxis m r)) :=
    milliGRange_scaleAxis (countRange_decodeAxis m r)
  refine ⟨fun r => ⟨scaleAxis_decodeAxis_normal r, ?multiple4⟩,
    fun r => ⟨scaleAxis_decodeAxis_highResolution r, ?multiple2⟩, by decide, by decide⟩
  case multiple4 => obtain ⟨-, -, h⟩ := hrange .normal r; exact h
  case multiple2 => obtain ⟨-, -, h⟩ := hrange .highResolution r; exact h

end Sys2Proof.Machine
end

section
/-! The sequencer's rules (41_controller.md R145 to R156): each state of `ST` as its operation and its record, the states
with every outcome of their transaction, and the initialization path (R159). -/

namespace Sys2Proof.Machine

theorem target1_of_params_eq {s t : State} (h : t.params = s.params) : t.target1 = s.target1 :=
  congrArg (fun p : Params => Ctrl1Table.at p.ctrl1Target p.mode) h

theorem target4_of_params_eq {s t : State} (h : t.params = s.params) : t.target4 = s.target4 :=
  congrArg (fun p : Params => Ctrl4Table.at p.ctrl4Target p.mode p.fsr) h

/-! ### One line per state: the operation it issues, then its record (R87, R145 to R156) -/

section table
variable {s : State}

/-- No operation writes `ST`, the parameters or `INITSTAT`, so the record is that of the state that issued the operation,
made with the values it had. -/
theorem seqStep_eq_andThen {i : Instr} {k : State → Result} (hi : s.issue = i)
    (hk : ∀ u : State, u.st = s.st → u.params = s.params → u.initStat = s.initStat → complete u = k u) :
    seqStep s = andThen (exec i s) k := by
  rw [seqStep_eq, hi]
  cases hu : exec i s with
  | next u =>
    obtain ⟨hst, hparams, hinit, -⟩ := exec_frame hu
    exact hk u hst hparams hinit
  | fault f => rfl
  | refused q => rfl

theorem seqStep_of_settle (h : s.st = .settle) :
    seqStep s = andThen (exec .settle s) fun u => .next { u with st := .cfg1Rd } :=
  seqStep_eq_andThen (by simp [State.issue, h]) fun u hst _ _ => by simp [complete, hst, h]

theorem seqStep_of_cfg1Rd (h : s.st = .cfg1Rd) :
    seqStep s = andThen (exec (.rdreg Config.devAddr Config.regCtrl1) s) fun u =>
      afterConfigRead s.target1 .cfg1Wr .cfg4Rd
        { u with initStat := { s.initStat with c1r := InitCode.ofStatus u.ts } } :=
  seqStep_eq_andThen (by simp [State.issue, h]) fun u hst hparams hinit => by
    simp [complete, hst, h, hinit, target1_of_params_eq hparams]

theorem seqStep_of_cfg1Wr (h : s.st = .cfg1Wr) :
    seqStep s = andThen (exec (.wrreg Config.devAddr Config.regCtrl1 s.target1) s) fun u =>
      .next { u with initStat := { s.initStat with c1w := InitCode.ofStatus u.ts }, st := .cfg4Rd } :=
  seqStep_eq_andThen (by simp [State.issue, h]) fun u hst _ hinit => by simp [complete, hst, h, hinit]

theorem seqStep_of_cfg4Rd (h : s.st = .cfg4Rd) :
    seqStep s = andThen (exec (.rdreg Config.devAddr Config.regCtrl4) s) fun u =>
      afterConfigRead s.target4 .cfg4Wr .idle
        { u with initStat := { s.initStat with c4r := InitCode.ofStatus u.ts } } :=
  seqStep_eq_andThen (by simp [State.issue, h]) fun u hst hparams hinit => by
    simp [complete, hst, h, hinit, target4_of_params_eq hparams]

theorem seqStep_of_cfg4Wr (h : s.st = .cfg4Wr) :
    seqStep s = andThen (exec (.wrreg Config.devAddr Config.regCtrl4 s.target4) s) fun u =>
      .next { u with initStat := { s.initStat with c4w := InitCode.ofStatus u.ts }, st := .idle } :=
  seqStep_eq_andThen (by simp [State.issue, h]) fun u hst _ hinit => by simp [complete, hst, h, hinit]

theorem seqStep_of_idle (h : s.st = .idle) :
    seqStep s = andThen (exec .waitrdy s) fun u => if u.held then .next u else .next { u with st := .status } :=
  seqStep_eq_andThen (by simp [State.issue, h]) fun u hst _ _ => by simp [complete, hst, h]

theorem seqStep_of_status (h : s.st = .status) :
    seqStep s = andThen (exec (.rdreg Config.devAddr Config.regStatus) s) afterStatusRead :=
  seqStep_eq_andThen (by simp [State.issue, h]) fun u hst _ _ => by simp [complete, hst, h]

theorem seqStep_of_burst (h : s.st = .burst) :
    seqStep s = andThen (exec (.rdburst Config.devAddr Config.regOutBase Config.burstLen) s) afterBurst :=
  seqStep_eq_andThen (by simp [State.issue, h]) fun u hst _ _ => by simp [complete, hst, h]

theorem seqStep_of_decode (h : s.st = .decode) :
    seqStep s = andThen (exec .decode s) fun u => .next { u with st := afterDecode s.variant } :=
  seqStep_eq_andThen (by simp [State.issue, h]) fun u hst hparams _ => by
    have hvariant : u.variant = s.variant := congrArg Params.variant hparams
    simp [complete, hst, h, hvariant]

theorem seqStep_of_scale (h : s.st = .scale) :
    seqStep s = andThen (exec .scale s) fun u => .next { u with st := .emit } :=
  seqStep_eq_andThen (by simp [State.issue, h]) fun u hst _ _ => by simp [complete, hst, h]

theorem seqStep_of_emit (h : s.st = .emit) :
    seqStep s = andThen (exec .emit s) fun u => .next { u with st := .done } :=
  seqStep_eq_andThen (by simp [State.issue, h]) fun u hst _ _ => by simp [complete, hst, h]

theorem seqStep_of_done (h : s.st = .done) :
    seqStep s = andThen (exec .rdyclr s) fun u => .next { u with st := .idle } :=
  seqStep_eq_andThen (by simp [State.issue, h]) fun u hst _ _ => by simp [complete, hst, h]

end table

/-! ### The states without a transaction (R145, R150, R153 to R156) -/

/-- Settles O33: the table's line, with what `SETTLE` does written out. -/
theorem settleState : Obligations.SettleState :=
  ⟨rfl, fun _ hst => seqStep_of_settle hst⟩

/-- Settles O34: `WAITRDY` completes there, so nothing is pending. -/
theorem idleState : Obligations.IdleState := by
  refine ⟨rfl, fun s hst hready => ?_⟩
  have hexec : exec .waitrdy s = .next { s with held := false } := by simp [exec, readyEvent_iff.mpr hready]
  refine ⟨by simp [State.issue, hst], hexec, ?_⟩
  rw [seqStep_of_idle hst, hexec]; rfl

/-- Settles O40: the table's lines; `VARIANT` decides which state follows `DECODE`. -/
theorem datapathStates : Obligations.DatapathStates := by
  refine ⟨rfl, rfl, rfl, fun s t => ⟨fun hst h hv => ?_, fun hst h hv => ?_, fun hst h => ?_, fun hst h => ?_⟩⟩
  · rw [seqStep_of_decode hst, h, hv]; rfl
  · rw [seqStep_of_decode hst, h, hv]; rfl
  · rw [seqStep_of_scale hst, h]; rfl
  · rw [seqStep_of_emit hst, h]; rfl

/-- Settles O41: the table's line, with what `RDYCLR` does written out. -/
theorem doneState : Obligations.DoneState :=
  ⟨rfl, fun _ hst => seqStep_of_done hst⟩

/-! ### One transaction with the device (R50, R111, R112) -/

section transaction
variable {s : State} (reg : RegAddr) (value : Byte)

theorem exec_rdreg_device_of_ok (hs : s.settled = true) (ha : s.answerNow.status = .ok) :
    exec (.rdreg Config.devAddr reg) s = .next (s.afterOkRead reg) := by
  rw [exec_rdreg_of_ok _ _ hs ha, State.busRead1_of_ok _ _ ha]; rfl

theorem exec_rdreg_device_of_fail (hs : s.settled = true) (ha : s.answerNow.status = .fail) :
    exec (.rdreg Config.devAddr reg) s = .next (s.afterFailedRead reg) := by
  rw [exec_rdreg_of_fail _ _ hs ha, State.busRead1_of_fail _ _ ha]; rfl

theorem exec_wrreg_device_of_ok (hs : s.settled = true) (ha : s.answerNow.status = .ok) :
    exec (.wrreg Config.devAddr reg value) s = .next (s.afterOkWrite reg value) := by
  rw [exec_wrreg_of_ok _ _ _ hs ha, State.busWrite1, ha]; rfl

theorem exec_wrreg_device_of_fail (hs : s.settled = true) (ha : s.answerNow.status = .fail) :
    exec (.wrreg Config.devAddr reg value) s = .next (s.afterFailedWrite reg value) := by
  rw [exec_wrreg_of_fail _ _ _ hs ha, State.busWrite1, ha]; rfl

end transaction

/-! ### The read of a control register (R146, R148) -/

section configRead
variable {s : State} {reg : RegAddr} {target : Byte} {record : InitCode → InitStat} {write skip : SeqState}

theorem afterConfigRead_of_ne {v : Byte} (hts : s.ts = .ok) (hv : s.v = .val v) (hne : v ≠ target) :
    afterConfigRead target write skip s = .next ({ s with st := write }.raise .configurationMismatch) := by
  simp [afterConfigRead, hts, hv, needsWrite, hne]

theorem afterConfigRead_of_eq (hts : s.ts = .ok) (hv : s.v = .val target) :
    afterConfigRead target write skip s = .next { s with st := skip } := by
  simp [afterConfigRead, hts, hv, needsWrite]

theorem afterConfigRead_of_fail_write (hts : s.ts = .fail) (hw : s.onReadFail = .write) :
    afterConfigRead target write skip s = .next { s with st := write } := by
  simp [afterConfigRead, hts, hw]

theorem afterConfigRead_of_fail_skip (hts : s.ts = .fail) (hw : s.onReadFail = .skip) :
    afterConfigRead target write skip s = .next { s with st := skip } := by
  simp [afterConfigRead, hts, hw]

/-- The step of `SEQ` reads a control register, records the status with `record`, and goes on to the state `write` or
`skip`: every outcome of the read (R146, R148). -/
structure State.ConfigRead (s : State) (reg : RegAddr) (target : Byte) (record : InitCode → InitStat)
    (write skip : SeqState) : Prop where
  differs : s.answerNow.status = .ok → s.answerNow.value ≠ target →
    seqStep s = .next { s.afterOkRead reg with
      initStat := record .ok, raised := s.raised ++ [.configurationMismatch], st := write }
  equal : s.answerNow.status = .ok → s.answerNow.value = target →
    seqStep s = .next { s.afterOkRead reg with initStat := record .ok, st := skip }
  failedWrite : s.answerNow.status = .fail → s.onReadFail = .write →
    seqStep s = .next { s.afterFailedRead reg with initStat := record .fail, st := write }
  failedSkip : s.answerNow.status = .fail → s.onReadFail = .skip →
    seqStep s = .next { s.afterFailedRead reg with initStat := record .fail, st := skip }

/-- The answer's status decides what `TS` and `V` are, and those what `afterConfigRead` does. -/
theorem configRead_of_seqStep (hs : s.settled = true)
    (hstep : seqStep s = andThen (exec (.rdreg Config.devAddr reg) s) fun u =>
      afterConfigRead target write skip { u with initStat := record (InitCode.ofStatus u.ts) }) :
    s.ConfigRead reg target record write skip where
  differs ha hne := by
    rw [hstep, exec_rdreg_device_of_ok reg hs ha, andThen_next]
    exact afterConfigRead_of_ne rfl rfl hne
  equal ha heq := by
    rw [hstep, exec_rdreg_device_of_ok reg hs ha, andThen_next]
    exact afterConfigRead_of_eq rfl (congrArg Datum.val heq)
  failedWrite ha hw := by
    rw [hstep, exec_rdreg_device_of_fail reg hs ha, andThen_next]
    exact afterConfigRead_of_fail_write rfl hw
  failedSkip ha hw := by
    rw [hstep, exec_rdreg_device_of_fail reg hs ha, andThen_next]
    exact afterConfigRead_of_fail_skip rfl hw

theorem configRead_ctrl1 (hst : s.st = .cfg1Rd) (hs : s.settled = true) :
    s.ConfigRead Config.regCtrl1 s.target1 (fun c => { s.initStat with c1r := c }) .cfg1Wr .cfg4Rd :=
  configRead_of_seqStep hs (seqStep_of_cfg1Rd hst)

theorem configRead_ctrl4 (hst : s.st = .cfg4Rd) (hs : s.settled = true) :
    s.ConfigRead Config.regCtrl4 s.target4 (fun c => { s.initStat with c4r := c }) .cfg4Wr .idle :=
  configRead_of_seqStep hs (seqStep_of_cfg4Rd hst)

end configRead

/-- Settles O35: the read of `CTRL1`. -/
theorem ctrl1ReadState : Obligations.Ctrl1ReadState := by
  refine ⟨rfl, fun s hst hs => ?_⟩
  obtain ⟨differs, equal, failedWrite, failedSkip⟩ := configRead_ctrl1 hst hs
  exact ⟨differs, equal, failedWrite, failedSkip⟩

/-- Settles O37: the read of `CTRL4`. -/
theorem ctrl4ReadState : Obligations.Ctrl4ReadState := by
  refine ⟨rfl, fun s hst hs => ?_⟩
  obtain ⟨differs, equal, failedWrite, failedSkip⟩ := configRead_ctrl4 hst hs
  exact ⟨differs, equal, failedWrite, failedSkip⟩

/-! ### The write of a control register (R147, R149) -/

section configWrite
variable {s : State} {reg : RegAddr} {target : Byte} {record : InitCode → InitStat} {next : SeqState}

/-- The step of `SEQ` writes a control register, records the status with `record`, and goes on to the state `next`, with
either status (R147, R149). -/
structure State.ConfigWrite (s : State) (reg : RegAddr) (target : Byte) (record : InitCode → InitStat)
    (next : SeqState) : Prop where
  ok : s.answerNow.status = .ok →
    seqStep s = .next { s.afterOkWrite reg target with initStat := record .ok, st := next }
  failed : s.answerNow.status = .fail →
    seqStep s = .next { s.afterFailedWrite reg target with initStat := record .fail, st := next }

theorem configWrite_of_seqStep (hs : s.settled = true)
    (hstep : seqStep s = andThen (exec (.wrreg Config.devAddr reg target) s) fun u =>
      .next { u with initStat := record (InitCode.ofStatus u.ts), st := next }) :
    s.ConfigWrite reg target record next where
  ok ha := by rw [hstep, exec_wrreg_device_of_ok reg target hs ha]; rfl
  failed ha := by rw [hstep, exec_wrreg_device_of_fail reg target hs ha]; rfl

theorem configWrite_ctrl1 (hst : s.st = .cfg1Wr) (hs : s.settled = true) :
    s.ConfigWrite Config.regCtrl1 s.target1 (fun c => { s.initStat with c1w := c }) .cfg4Rd :=
  configWrite_of_seqStep hs (seqStep_of_cfg1Wr hst)

theorem configWrite_ctrl4 (hst : s.st = .cfg4Wr) (hs : s.settled = true) :
    s.ConfigWrite Config.regCtrl4 s.target4 (fun c => { s.initStat with c4w := c }) .idle :=
  configWrite_of_seqStep hs (seqStep_of_cfg4Wr hst)

end configWrite

/-- Settles O36: the two writes. -/
theorem ctrlWriteStates : Obligations.CtrlWriteStates :=
  ⟨rfl, rfl, fun _ hs => ⟨fun hst => (configWrite_ctrl1 hst hs).ok, fun hst => (configWrite_ctrl1 hst hs).failed,
    fun hst => (configWrite_ctrl4 hst hs).ok, fun hst => (configWrite_ctrl4 hst hs).failed⟩⟩

/-! ### The status read and the burst (R151, R152) -/

/-- The new-data test reads bit 3 of the value (R57, R58). -/
theorem newData_eq_getLsbD (v : Byte) : newData v = v.getLsbD 3 := by
  have hmask : Config.ndMask = BitVec.twoPow 8 3 := by decide
  rw [newData, hmask, BitVec.and_twoPow]
  cases v.getLsbD 3 <;> decide

theorem State.pollRdy_eq_ite (s : State) (nd : Bool) :
    s.pollRdy nd = if s.strategy = .polled then nd else s.rdy := by
  unfold State.pollRdy; cases s.strategy <;> rfl

section afterStatusRead
variable {s : State} {v : Byte}

theorem afterStatusRead_of_fail (hts : s.ts = .fail) : afterStatusRead s = .next { s with st := .done } := by
  simp [afterStatusRead, hts]

theorem afterStatusRead_of_newData (hts : s.ts = .ok) (hv : s.v = .val v) (hnd : newData v = true) :
    afterStatusRead s = .next { s with
      nd := true, rdy := (if s.strategy = .polled then true else s.rdy), st := .burst } := by
  simp [afterStatusRead, hts, hv, hnd, State.pollRdy_eq_ite]

theorem afterStatusRead_of_noNewData (hts : s.ts = .ok) (hv : s.v = .val v) (hnd : newData v = false) :
    afterStatusRead s = .next { s with
      nd := false, rdy := (if s.strategy = .polled then false else s.rdy),
      raised := s.raised ++ [.noNewData], st := .done } := by
  simp [afterStatusRead, hts, hv, hnd, State.pollRdy_eq_ite, State.raise]

end afterStatusRead

/-- Settles O38: the answer's status decides `TS`, and its value's bit 3 the test. -/
theorem statusState : Obligations.StatusState := by
  refine ⟨rfl, fun s hst hs => ⟨fun ha => ?failed, fun ha hbit => ?set, fun ha hbit => ?clear⟩⟩ <;>
    rw [seqStep_of_status hst]
  case failed => rw [exec_rdreg_device_of_fail _ hs ha, andThen_next]; exact afterStatusRead_of_fail rfl
  case set =>
    rw [exec_rdreg_device_of_ok _ hs ha, andThen_next]
    exact afterStatusRead_of_newData rfl rfl (newData_eq_getLsbD _ ▸ hbit)
  case clear =>
    rw [exec_rdreg_device_of_ok _ hs ha, andThen_next]
    exact afterStatusRead_of_noNewData rfl rfl (newData_eq_getLsbD _ ▸ hbit)

/-- Settles O39: a failed or short burst is O12's; a complete one of six bytes leaves nothing of the old `RAW`. -/
theorem burstState : Obligations.BurstState := by
  refine ⟨rfl, fun s hst hs => ⟨fun hle hbad => ?failed, fun b ha hb => ?complete⟩⟩ <;> rw [seqStep_of_burst hst]
  case failed =>
    obtain ⟨-, -, hfailed, -⟩ := rdburstResult Config.devAddr Config.regOutBase Config.burstLen s
    rw [hfailed (by decide) (by decide) hs hle hbad]; rfl
  case complete =>
    have hlen : b.toList.length = Config.burstLen.toNat := b.length_toList
    have hbytes : Answer.burstBytes s.answerNow Config.burstLen = b.toList :=
      (burstBytes_of_length_le (hb ▸ hlen.le)).trans hb
    have hstatus : burstStatus s.answerNow Config.burstLen = .ok := burstStatus_eq_ok.mpr ⟨ha, hbytes ▸ hlen⟩
    rw [exec_rdburst_of_complete _ _ (by decide) hs hstatus, State.busReadN, hbytes, fillRaw_six, ha]; rfl

/-! ### The initialization path (R159) -/

/-- `t` comes after `s` in one run: the history of `s` with `es` added, the same parameters, and the delay elapsed. -/
structure State.Adds (s t : State) (es : List Event) : Prop where
  history : t.history = s.history ++ es
  params : t.params = s.params
  settled : t.settled = true

theorem State.Adds.trans {s t u : State} {es es' : List Event} (h : s.Adds t es) (h' : t.Adds u es') :
    s.Adds u (es ++ es') :=
  ⟨by rw [h'.history, h.history, List.append_assoc], h'.params.trans h.params, h'.settled⟩

section paths
variable {s t : State} {reg : RegAddr} {target : Byte} {record : InitCode → InitStat} {write skip : SeqState}

/-- The read of a control register answers a next state whatever the transport answers (R146, R148). -/
theorem State.ConfigRead.total (h : s.ConfigRead reg target record write skip) (hs : s.settled = true) :
    ∃ t status value, seqStep s = .next t ∧ (t.st = skip ∨ t.st = write) ∧
      s.Adds t [.read1 Config.devAddr reg status value] := by
  cases ha : s.answerNow.status
  case ok =>
    by_cases hv : s.answerNow.value = target
    · exact ⟨_, _, _, h.equal ha hv, .inl rfl, rfl, rfl, hs⟩
    · exact ⟨_, _, _, h.differs ha hv, .inr rfl, rfl, rfl, hs⟩
  case fail =>
    cases hw : s.onReadFail
    case skip => exact ⟨_, _, _, h.failedSkip ha hw, .inl rfl, rfl, rfl, hs⟩
    case write => exact ⟨_, _, _, h.failedWrite ha hw, .inr rfl, rfl, rfl, hs⟩

/-- The write of a control register answers a next state whatever the transport answers (R147, R149). -/
theorem State.ConfigWrite.total (h : s.ConfigWrite reg target record skip) (hs : s.settled = true) :
    ∃ t status, seqStep s = .next t ∧ t.st = skip ∧ s.Adds t [.write1 Config.devAddr reg target status] := by
  cases ha : s.answerNow.status
  case ok => exact ⟨_, _, h.ok ha, rfl, rfl, rfl, hs⟩
  case fail => exact ⟨_, _, h.failed ha, rfl, rfl, rfl, hs⟩

theorem seqWhile_of_outside {p : SeqState → Bool} (h : p s.st = false) (fuel : Nat) :
    seqWhile p fuel s = .next s := by
  cases fuel <;> simp [seqWhile, h]

theorem seqWhile_of_seqStep {p : SeqState → Bool} (h : p s.st = true) (hstep : seqStep s = .next t) (fuel : Nat) :
    seqWhile p (fuel + 1) s = seqWhile p fuel t := by
  simp [seqWhile, h, hstep]

/-- The path through a control register's two states: its read, at most one write of its target, and on to the state
after them, in at most two steps (R146 to R149). -/
theorem seqWhile_of_configRead {p : SeqState → Bool} (hin : p s.st = true) (hwrite : p write = true)
    (hs : s.settled = true) (hread : s.ConfigRead reg target record write skip)
    (hwr : ∀ u : State, u.st = write → u.settled = true → u.params = s.params →
      ∃ record', u.ConfigWrite reg target record' skip) (fuel : Nat) :
    ∃ t fuel' status value w, seqWhile p (fuel + 2) s = seqWhile p (fuel' + fuel) t ∧ t.st = skip ∧
      s.Adds t ([.read1 Config.devAddr reg status value] ++ w) ∧
      (w = [] ∨ ∃ status', w = [.write1 Config.devAddr reg target status']) := by
  obtain ⟨u, status, value, hstep, hu, hadds⟩ := hread.total hs
  rw [seqWhile_of_seqStep hin hstep]
  rcases hu with hskip | hst
  · exact ⟨u, 1, status, value, [], by rw [Nat.add_comm 1], hskip, by simpa using hadds, .inl rfl⟩
  · obtain ⟨record', hw⟩ := hwr u hst hadds.settled hadds.params
    obtain ⟨t, status', hstep', ht, hadds'⟩ := hw.total hadds.settled
    exact ⟨t, 0, status, value, _, by rw [Nat.zero_add, seqWhile_of_seqStep (hst ▸ hwrite) hstep'], ht,
      hadds.trans hadds', .inr ⟨status', rfl⟩⟩

end paths

/-- Settles O42: `SETTLE`, the path through `CTRL1`'s two states, the path through `CTRL4`'s two states, and `S_IDLE`,
which lies outside `INIT`. -/
theorem initPath : Obligations.InitPath := by
  intro s hst
  obtain ⟨u, hstep, hu, hadds⟩ : ∃ u, seqStep s = .next u ∧ u.st = .cfg1Rd ∧ s.Adds u [] :=
    ⟨_, settleState.2 s hst, rfl, (List.append_nil _).symm, rfl, rfl⟩
  obtain ⟨a, fuel1, st1, v1, w1, hrun1, ha, hadds1, hw1⟩ :=
    seqWhile_of_configRead (p := Pseudo.init.covers) (by rw [hu]; rfl) rfl hadds.settled
      (configRead_ctrl1 hu hadds.settled)
      (fun x hx hs hp => ⟨_, target1_of_params_eq hp ▸ configWrite_ctrl1 hx hs⟩) 2
  obtain ⟨t, fuel4, st4, v4, w4, hrun4, ht, hadds4, hw4⟩ :=
    seqWhile_of_configRead (p := Pseudo.init.covers) (by rw [ha]; rfl) rfl hadds1.settled
      (configRead_ctrl4 ha hadds1.settled)
      (fun x hx hs hp => ⟨_, target4_of_params_eq hp ▸ configWrite_ctrl4 hx hs⟩) fuel1
  have hrun : runPseudo .init s = .next t := calc
    runPseudo .init s = seqWhile Pseudo.init.covers 4 u := seqWhile_of_seqStep (by rw [hst]; rfl) hstep 4
    _ = seqWhile Pseudo.init.covers (fuel1 + 2) a := hrun1
    _ = seqWhile Pseudo.init.covers (fuel4 + fuel1) t := hrun4
    _ = .next t := seqWhile_of_outside (by rw [ht]; rfl) _
  obtain ⟨hhistory, -, hsettled⟩ := (hadds.trans hadds1).trans hadds4
  rw [target1_of_params_eq hadds.params] at hw1
  rw [target4_of_params_eq (hadds.trans hadds1).params] at hw4
  refine ⟨t, st1, v1, st4, v4, w1, w4, hrun, ht, hsettled, ?_, hw1, hw4⟩
  simp only [hhistory, List.nil_append, List.append_assoc]; rfl

end Sys2Proof.Machine
end

section
/-! The Frame Emitter (42_frame_emitter.md R171, R172): what `EMIT` answers with three values in `AX` and without, and the
frame of each variant written out. -/

namespace Sys2Proof.Machine

/-! ### The frame in each variant's byte order (R172) -/

theorem frameOf_reference (x y z : Half) :
    frameOf .reference x y z = #v[0xA0#8, x.extractLsb' 0 8, x.extractLsb' 8 8, y.extractLsb' 0 8, y.extractLsb' 8 8,
      z.extractLsb' 0 8, z.extractLsb' 8 8, 0xC0#8] := rfl

theorem frameOf_historical (x y z : Half) :
    frameOf .historical x y z = #v[0xA0#8, x.extractLsb' 8 8, x.extractLsb' 0 8, y.extractLsb' 8 8, y.extractLsb' 0 8,
      z.extractLsb' 8 8, z.extractLsb' 0 8, 0xC0#8] := rfl

/-! ### `EMIT` on values and on an `invalid` register (R22, R171) -/

/-- The registers and the one sink call hold the same eight bytes. -/
theorem exec_emit_of_ax {s : State} {x y z : Half} (h : s.ax = axOf x y z) :
    exec .emit s = .next { s with
      frame := frameRegs (frameOf s.variant x y z),
      history := s.history ++ [.frame (frameOf s.variant x y z).toList] } := by
  simp [exec, execEmit, axValues_axOf h, State.sinkWrite, State.record]

theorem exec_emit_of_invalid {s : State} (h : ∃ (i : Nat) (hi : i < 3), s.ax[i] = .invalid) :
    exec .emit s = .fault (.invalidRead .ax) := by
  simp [exec, execEmit, axValues_eq_none h]

/-- Settles O25: `EMIT` puts the frame of its variant in both places, and that frame is the one written out. -/
theorem emitResult : Obligations.EmitResult := by
  refine ⟨by decide, fun s x y z hax => ⟨fun hv => ?reference, fun hv => ?historical⟩, fun _ => exec_emit_of_invalid⟩
  case reference => rw [exec_emit_of_ax hax, hv, frameOf_reference]; rfl
  case historical => rw [exec_emit_of_ax hax, hv, frameOf_historical]; rfl

end Sys2Proof.Machine
end

section
/-! The Readiness Flag's operations (43_readiness.md R186, R188): `RDYCLR` in every state, and `EVTACK` where it is enabled
and where it is not. -/

namespace Sys2Proof.Machine

/-! ### `RDYCLR` (R186) -/

/-- Settles O28: `RDYCLR` is one write of `RDY`, under no condition. -/
theorem rdyclrResult : Obligations.RdyclrResult :=
  ⟨by decide, fun _ => rfl⟩

/-! ### `EVTACK` (R188) -/

/-- The acknowledge and the write of `RDY` are one next state. -/
theorem exec_evtack_of_enabled {s : State} (h : s.handlerEnabled = true) :
    exec .evtack s = .next { s with evtPend := false, rdy := true } := by
  simp [exec, execEvtack, h, State.evtAck]

/-- Settles O29: a next state of `EVTACK` says it was enabled, which needs both the strategy and the trigger. -/
theorem evtackResult : Obligations.EvtackResult := by
  refine ⟨by decide, fun s => ⟨fun hs hp => ?enabled, fun hoff t hnext => ?disabled⟩⟩
  case enabled => exact exec_evtack_of_enabled (handlerEnabled_iff.mpr ⟨hs, hp⟩)
  case disabled =>
    obtain ⟨hon, -⟩ := execEvtack_eq_next hnext
    obtain ⟨hs, hp⟩ := handlerEnabled_iff.mp hon
    rcases hoff with hpolled | hnone
    · cases hs.symm.trans hpolled
    · cases hp.symm.trans hnone

end Sys2Proof.Machine
end

section
/-! No bus transaction before the settle delay has elapsed (70_reset_and_hazards.md R240). -/

namespace Sys2Proof.Machine

/-- Before the settle delay a burst is refused whatever its count: the delay or the count is why. -/
theorem exec_rdburst_refused_of_not_settled {s : State} (dev : DevAddr) (start : RegAddr) (count : Byte)
    (hs : s.settled = false) : ∃ q, exec (.rdburst dev start count) s = .refused q := by
  by_cases hc : burstCountOk count = true
  · exact ⟨.notSettled, exec_rdburst_of_not_settled dev start hc hs⟩
  · exact ⟨.burstCount, exec_rdburst_of_illFormed dev start hc⟩

/-- Settles O14: each adapter operation meets the unelapsed delay, and `S_SETTLE` issues `SETTLE`, which leaves the
history alone. -/
theorem settleBeforeTransactions : Obligations.SettleBeforeTransactions := by
  refine ⟨fun s dev reg value hs => ⟨?rdreg, ?wrreg, ?rdburst⟩, rfl, fun s hst => ?settle⟩
  case rdreg => exact exec_rdreg_of_not_settled dev reg hs
  case wrreg => exact exec_wrreg_of_not_settled dev reg value hs
  case rdburst => exact exec_rdburst_refused_of_not_settled dev reg value hs
  case settle => exact ⟨_, settleState.2 s hst, rfl, rfl⟩

end Sys2Proof.Machine
end

section
/-! The decoder and the encoder are inverse to each other and the operands are fields of the word (30_encoding.md R83 to R88);
the codes of `ST` and `INITSTAT` (R34, R96); a decoded axis bit by bit (R136). -/

namespace Sys2Proof

/-! ### Decode and encode (R83, R84, R88) -/

/-- Settles O1: a word is decoded as an operation exactly where it is its encoding and the operation is well-formed. -/
theorem encodeThenDecode : Obligations.EncodeThenDecode :=
  fun _ hwf => decode_eq_ok.mpr ⟨rfl, hwf⟩

/-- Settles O2: the same equivalence, read from the decoder's side. -/
theorem decodeThenEncode : Obligations.DecodeThenEncode := by
  intro w i h
  obtain ⟨henc, hwf⟩ := decode_eq_ok.mp h
  exact ⟨henc.symm, hwf⟩

/-! ### The operands as numbers (30_encoding.md section 3) -/

theorem OpWord.dev_toNat (w : OpWord) : w.dev.toNat = w.toNat / 2 ^ 16 % 2 ^ 7 := by
  simp [OpWord.dev, Nat.shiftRight_eq_div_pow]

theorem OpWord.reg_toNat (w : OpWord) : w.reg.toNat = w.toNat / 2 ^ 8 % 2 ^ 8 := by
  simp [OpWord.reg, Nat.shiftRight_eq_div_pow]

/-- The operands of a format B word are the numbers in its three operand fields. -/
theorem operands_of_eq_encodeB {w : OpWord} {op : BitVec 4} {dev : DevAddr} {reg : RegAddr} {arg : Byte}
    (h : w = encodeB op dev reg arg) :
    dev.toNat = w.toNat / 2 ^ 16 % 2 ^ 7 ∧ reg.toNat = w.toNat / 2 ^ 8 % 2 ^ 8 ∧ arg.toNat = w.toNat % 2 ^ 8 := by
  obtain ⟨-, -, rfl, rfl, rfl⟩ := eq_encodeB_iff.mp h
  exact ⟨w.dev_toNat, w.reg_toNat, w.arg_toNat⟩

/-- Settles O4: a decoded word is the encoding of its operation, which puts each operand in its field. -/
theorem operandsAreFields : Obligations.OperandsAreFields := by
  refine fun w => ⟨fun dev reg h => ?rdreg, fun dev reg value h => ?wrreg, fun dev start count h => ?rdburst⟩
  case rdreg =>
    obtain ⟨hdev, hreg, -⟩ := operands_of_eq_encodeB (decode_eq_ok.mp h).1
    exact ⟨hdev, hreg⟩
  case wrreg => exact operands_of_eq_encodeB (decode_eq_ok.mp h).1
  case rdburst => exact operands_of_eq_encodeB (decode_eq_ok.mp h).1

/-- Settles O6: each word is decoded by evaluation. -/
theorem specWordsDecode : Obligations.SpecWordsDecode := by
  unfold Obligations.SpecWordsDecode; decide

end Sys2Proof

namespace Sys2Proof.Machine

/-! ### The codes of `ST` (R96, R157) -/

theorem SeqState.ofCode?_code (st : SeqState) : SeqState.ofCode? st.code = some st := by cases st <;> rfl

/-- Settles O8: the twelve codes are read back, and the sixteen 4-bit numbers are enumerated. -/
theorem sequencerCodes : Obligations.SequencerCodes :=
  ⟨SeqState.ofCode?_code, by decide⟩

/-! ### `INITSTAT` as one byte (R34) -/

theorem InitCode.ofCode?_code (c : InitCode) : InitCode.ofCode? c.code = some c := by cases c <;> rfl

/-- Four 2-bit fields side by side are the digits of one number in base 4. -/
theorem toNat_append_four (d c b a : BitVec 2) :
    (d ++ c ++ b ++ a).toNat = a.toNat + 4 * b.toNat + 16 * c.toNat + 64 * d.toNat := by
  have happend {n : Nat} (x : BitVec n) (y : BitVec 2) : (x ++ y).toNat = y.toNat + 4 * x.toNat := by
    rw [BitVec.toNat_append, ← Nat.shiftLeft_add_eq_or_of_lt y.isLt, Nat.shiftLeft_eq]
    omega
  rw [happend, happend, happend]
  omega

theorem InitStat.toNat_toByte (i : InitStat) :
    i.toByte.toNat = i.c1r.code.toNat + 4 * i.c1w.code.toNat + 16 * i.c4r.code.toNat + 64 * i.c4w.code.toNat :=
  toNat_append_four _ _ _ _

/-- Each field is read back from its two bits of the byte. -/
theorem InitStat.extractLsb'_toByte (i : InitStat) :
    i.toByte.extractLsb' 0 2 = i.c1r.code ∧ i.toByte.extractLsb' 2 2 = i.c1w.code ∧
    i.toByte.extractLsb' 4 2 = i.c4r.code ∧ i.toByte.extractLsb' 6 2 = i.c4w.code := by
  simp only [← BitVec.toNat_inj, BitVec.extractLsb'_toNat, InitStat.toNat_toByte, Nat.shiftRight_eq_div_pow]
  omega

theorem InitStat.ofByte?_toByte (i : InitStat) : InitStat.ofByte? i.toByte = some i := by
  obtain ⟨h1r, h1w, h4r, h4w⟩ := i.extractLsb'_toByte
  simp only [InitStat.ofByte?, h1r, h1w, h4r, h4w, InitCode.ofCode?_code]

/-- The write's status where a write was issued, else the read's. -/
theorem InitCode.orElse_eq_ite (write read : InitCode) :
    write.orElse read = if write ≠ .notIssued then write else read := by
  cases write <;> rfl

/-- Settles O9: the byte is the base-4 number of the four codes, so each code is read back from its digit. -/
theorem initStatPacked : Obligations.InitStatPacked :=
  ⟨fun i => ⟨i.ofByte?_toByte, i.toNat_toByte⟩, rfl, rfl, rfl, by decide,
    fun _ => ⟨InitCode.orElse_eq_ite _ _, InitCode.orElse_eq_ite _ _⟩⟩

/-! ### `DECODE` bit by bit (R136) -/

/-- Bit `i` is taken `SHIFT(MODE)` places higher, and the sign bit where no such place is. -/
theorem getLsbD_decodeAxis (m : Mode) (r : Half) {i : Nat} (hi : i < 16) :
    (decodeAxis m r).getLsbD i = r.getLsbD (if i + shiftOf m < 16 then i + shiftOf m else 15) := by
  simp only [decodeAxis, BitVec.getLsbD_sshiftRight, Nat.not_le.mpr hi, decide_false, Bool.not_false, Bool.true_and,
    Nat.add_comm i, BitVec.msb_eq_getLsbD_last]
  split <;> rfl

/-- Settles O19: `SHIFT(MODE)` is 6 in Normal and 4 in HighResolution mode. -/
theorem decodeAxisBits : Obligations.DecodeAxisBits :=
  fun r _ hi => ⟨getLsbD_decodeAxis .normal r hi, getLsbD_decodeAxis .highResolution r hi⟩

end Sys2Proof.Machine
end

section
/-! The frames of the operations (40_adapter.md R110; 10_state.md R23, R29), and what an operation does not depend on:
`RDBURST` on the bytes of an answer past `count` (R64), `SCALE` on `VARIANT` (R139). -/

namespace Sys2Proof.Machine

/-! ### The frames -/

/-- Settles O16: each adapter operation is one transport call, then `TS` and its own data register. -/
theorem adapterFrame : Obligations.AdapterFrame := by
  rintro s t dev reg arg i (rfl | rfl | rfl) h
  · obtain ⟨-, ⟨-, rfl⟩ | ⟨-, rfl⟩⟩ := execRdreg_eq_next h <;> simp [State.params, Event.isBus]
  · obtain ⟨-, ⟨-, rfl⟩ | ⟨-, rfl⟩⟩ := execWrreg_eq_next h <;> simp [State.params, Event.isBus]
  · obtain ⟨-, -, ⟨-, rfl⟩ | ⟨-, rfl⟩⟩ := execRdburst_eq_next h <;> simp [State.params, Event.isBus]

/-- Settles O26: each of the four is one update of what it writes; the frame has eight bytes by its type. -/
theorem datapathFrame : Obligations.DatapathFrame := by
  rintro s t i (rfl | rfl | rfl | rfl) h
  · obtain rfl := Host.Outcome.next.inj h; simp [State.params]
  · obtain ⟨b, -, rfl⟩ := execDecode_eq_next h; simp [State.params]
  · obtain ⟨a, -, rfl⟩ := execScale_eq_next h; simp [State.params]
  · obtain ⟨a, -, rfl⟩ := execEmit_eq_next h
    simp [State.params]

/-- Settles O31: each of the three is one update of what it writes. -/
theorem readinessFrame : Obligations.ReadinessFrame := by
  rintro s t i (rfl | rfl | rfl) h
  · obtain rfl := Host.Outcome.next.inj h; simp [State.params]
  · obtain rfl := Host.Outcome.next.inj h; simp [State.params]
  · obtain ⟨-, rfl⟩ := execEvtack_eq_next h; simp [State.params]

/-! ### A long burst answer (R64; log 16) -/

theorem burstBytes_take (a : Answer) (count : Byte) :
    Answer.burstBytes { a with bytes := a.bytes.take count.toNat } count = Answer.burstBytes a count := by
  simp [Answer.burstBytes]

theorem burstStatus_take (a : Answer) (count : Byte) :
    burstStatus { a with bytes := a.bytes.take count.toNat } count = burstStatus a count := by
  simp only [burstStatus, burstBytes_take]

theorem answerNow_with_answers (s : State) (a : Answer) (l : List Answer) :
    State.answerNow { s with answers := a :: l } = a := rfl

/-- Settles O13: a burst reads its answer's status and its first `count` bytes, and nothing else of it. -/
theorem burstAnswerCut : Obligations.BurstAnswerCut := by
  intro dev start count s a l
  simp only [exec, execRdburst, State.busReadN, State.dropAnswer, answerNow_with_answers, burstBytes_take,
    burstStatus_take, List.tail_cons]
  rfl

/-! ### `SCALE` reads no `VARIANT` (R139; log 22) -/

/-- Settles O22: the values of `AX` and `CFG.MODE` decide what `SCALE` writes. -/
theorem scaleReadsNoVariant : Obligations.ScaleReadsNoVariant := by
  intro s t v h
  obtain ⟨a, ha, rfl⟩ := execScale_eq_next h
  exact exec_scale_of_ax (axValues_eq_some.mp ha)

/-! ### `EVTACK` where it is not enabled (R188; log 7) -/

/-- Settles O30: `EVTACK` tests `handlerEnabled`, which needs both the EventDriven strategy and a pending trigger. -/
theorem evtackNotEnabled : Obligations.EvtackNotEnabled := by
  intro s hoff
  have hdisabled : s.handlerEnabled = false := by
    rcases hoff with h | h <;> simp [State.handlerEnabled, h]
  simp [exec, execEvtack, hdisabled]

end Sys2Proof.Machine
end

section
/-! The step (00_scope.md R6; 60_exceptions.md R212): one equation per turn, whose turn it is, a reset (R230), and what
no step but a reset changes (R25, R35). -/

namespace Sys2Proof.Machine

/-! ### One equation per turn -/

section turns
variable {s : State}

theorem step_of_direct {w : OpWord} (h : s.turn = .direct w) : step s = directStep w s := by simp [step, h]

theorem step_of_sequencer (h : s.turn = .sequencer) : step s = seqStep s.dropMove := by simp [step, h]

theorem step_of_handler (h : s.turn = .handler) : step s = execEvtack s.dropMove := by
  simp [step, h, handlerStep_eq]

theorem step_of_trigger (h : s.turn = .trigger) : step s = .next s.dropMove.raiseTrigger := by simp [step, h]

theorem step_of_reset {p : Params} (h : s.turn = .reset p) : step s = .next (s.dropMove.restart p) := by
  simp [step, h]

end turns

theorem runWord_of_ok {w : OpWord} {i : Instr} (h : decode w = .ok i) (s : State) : runWord w s = exec i s := by
  simp [runWord, h]

theorem runWord_of_error {w : OpWord} {e : DecodeError} (h : decode w = .error e) (s : State) :
    runWord w s = .refused (.illegalOpWord e) := by
  simp [runWord, h]

/-! ### Whose turn it is (R188, R212; log 5, log 9) -/

theorem turn_of_direct {s : State} {w : OpWord} (hd : s.direct = some w) (hheld : s.held = false) :
    s.turn = .direct w := by
  simp [State.turn, hd, hheld]

theorem turn_of_wired {s : State} (hd : s.direct = none) : s.turn = s.offeredTurn .sequencer := by
  simp [State.turn, hd]

/-- A move decides the turn, but that an offer to the handler counts only where `EVTACK` is enabled. -/
theorem offeredTurn_of_handler {s : State} {issuer : Turn} (hm : s.moveNow = .handler) (hen : s.handlerEnabled = true) :
    s.offeredTurn issuer = .handler := by
  simp [State.offeredTurn, hm, hen]

theorem handlerEnabled_eq_false {s : State} :
    s.handlerEnabled = false ↔ s.strategy = .polled ∨ s.evtPend = false := by
  cases hs : s.strategy <;> simp [State.handlerEnabled, hs]

/-- Settles O46: the five turns by the move, and the handler's by whether `EVTACK` is enabled. -/
theorem handlerTurns : Obligations.HandlerTurns := by
  intro s hd
  rw [turn_of_wired hd, ← handlerEnabled_iff, ← handlerEnabled_eq_false, State.offeredTurn]
  cases s.moveNow
  case handler => cases s.handlerEnabled <;> simp
  case sequencer => simp
  case trigger => simp
  case reset => simp

/-! ### The operation of a step (R82, R87; log 5, log 6) -/

/-- With nothing pending, taking the word off the lines changes nothing else. -/
theorem takeDirect_of_not_held {s : State} (h : s.held = false) : s.takeDirect = { s with direct := none } := by
  simp [State.takeDirect, h]

theorem holdDirect_of_not_held {u : State} (h : u.held = false) (w : OpWord) : holdDirect w u = .next u := by
  have hlines : (if u.held then some w else u.direct) = u.direct := by simp [h]
  rw [holdDirect, hlines]

/-- Only a `WAITRDY` can stay pending, so every other direct operation is the whole step. -/
theorem directStep_of_ok {s : State} {w : OpWord} {i : Instr} (hheld : s.held = false) (hdec : decode w = .ok i)
    (hi : i ≠ .waitrdy) : directStep w s = exec i { s with direct := none } := by
  rw [directStep, runWord_of_ok hdec, takeDirect_of_not_held hheld]
  cases hu : exec i { s with direct := none } with
  | next u => exact holdDirect_of_not_held ((exec_held hi hu).trans hheld) w
  | fault f => rfl
  | refused q => rfl

/-- Settles O45: the turn says which word is performed and what follows it. -/
theorem stepRunsDecodedOperation : Obligations.StepRunsDecodedOperation := by
  refine fun s i => ⟨fun w => turn_of_direct, fun w hd hheld hdec hi => ?alone, fun w ht hdec => ?direct,
    fun w e ht hdec => ?illegal, fun ht hdec => ?sequencer, fun ht hdec => ?handler, step_of_trigger,
    fun p => step_of_reset⟩
  case alone => rw [step_of_direct (turn_of_direct hd hheld), directStep_of_ok hheld hdec hi]
  case direct => rw [step_of_direct ht, directStep, runWord_of_ok hdec]
  case illegal => rw [step_of_direct ht, directStep, runWord_of_error hdec, andThen_refused]
  case sequencer => rw [step_of_sequencer ht, seqStep, runWord_of_ok hdec]
  case handler => rw [step_of_handler ht, ← handlerStep_eq, handlerStep, runWord_of_ok hdec]

/-- Settles O48: the move of the platform is taken and everything but the inputs is that of the reset state. -/
theorem restartResets : Obligations.RestartResets := by
  refine ⟨fun s p hd hm => ?restart, _, rfl, rfl⟩
  case restart =>
    have hturn : s.turn = .reset p := by simp [turn_of_wired hd, State.offeredTurn, hm]
    rw [step_of_reset hturn]
    rfl

/-! ### `WAITRDY` as a step (R181, R184; log 5, log 6) -/

theorem exec_waitrdy_of_ready {s : State} (h : s.strategy = .polled ∨ s.rdy = true) :
    exec .waitrdy s = .next { s with held := false } := by
  simp [exec, readyEvent_iff.mpr h]

theorem exec_waitrdy_of_pending {s : State} (hs : s.strategy = .eventDriven) (hr : s.rdy = false) :
    exec .waitrdy s = .next { s with held := true } := by
  simp [exec, readyEvent_eq_false.mpr ⟨hs, hr⟩]

/-- While `WAITRDY` is pending, `SEQ` stays in `S_IDLE` (R150). -/
theorem seqStep_of_idle_pending {s : State} (hst : s.st = .idle) (hs : s.strategy = .eventDriven)
    (hr : s.rdy = false) :
    seqStep s = .next { s with held := true } := by
  rw [seqStep_of_idle hst, exec_waitrdy_of_pending hs hr]; rfl

/-- Settles O27: `WAITRDY` notes in `held` whether it is pending, and both issuers go by that; with a move offered to the
handler while a direct word is pending, the turn is the handler's. -/
theorem waitrdyResult : Obligations.WaitrdyResult := by
  have hdec : decode 0x50000000#32 = .ok .waitrdy := by decide
  refine ⟨by decide, fun s => ⟨exec_waitrdy_of_ready, exec_waitrdy_of_pending, seqStep_of_idle_pending,
    fun hready => ?completed, fun hs hr => ?pending, fun hd hheld hm hs hp => ?lifted⟩⟩
  case completed =>
    rw [directStep, runWord_of_ok hdec, exec_waitrdy_of_ready (s := s.takeDirect) hready]; rfl
  case pending =>
    rw [directStep, runWord_of_ok hdec, exec_waitrdy_of_pending (s := s.takeDirect) hs hr]; rfl
  case lifted =>
    have hen : s.handlerEnabled = true := handlerEnabled_iff.mpr ⟨hs, hp⟩
    have hturn : s.turn = .handler := by simp [State.turn, hd, hheld, offeredTurn_of_handler hm hen]
    rw [step_of_handler hturn]
    exact exec_evtack_of_enabled (s := s.dropMove) hen

/-! ### What no step but a reset changes (R25, R31 to R35) -/

/-- No operation writes a parameter or `ST`; no record of `SEQ` writes a parameter or goes back to the
initialization. -/
theorem step_frame {s t : State} (h : step s = .next t) (hreset : ∀ p, s.turn ≠ .reset p) :
    t.params = s.params ∧ (s.st.inInit = false → t.st.inInit = false) := by
  rcases step_eq_next h with ⟨w, u, -, hu, rfl⟩ | ⟨-, u, hu, ht⟩ | ⟨-, h⟩ | ⟨-, rfl⟩ | ⟨p, hp, -⟩
  case inl =>
    obtain ⟨i, hi⟩ := runWord_eq_next hu
    obtain ⟨hst, hparams, -⟩ := exec_frame hi
    exact ⟨hparams, fun hout => hst ▸ hout⟩
  case inr.inl =>
    obtain ⟨i, hi⟩ := runWord_eq_next hu
    obtain ⟨hst, hexec, -⟩ := exec_frame hi
    obtain ⟨hcomplete, -, -, -, hnever⟩ := complete_frame ht
    exact ⟨hcomplete.trans hexec, fun hout => hnever (hst ▸ hout)⟩
  case inr.inr.inl => obtain ⟨-, rfl⟩ := execEvtack_eq_next h; exact ⟨rfl, id⟩
  case inr.inr.inr.inl => exact ⟨rfl, id⟩
  case inr.inr.inr.inr => exact absurd hp (hreset p)

/-- Settles O49: the first half of the step's frame. -/
theorem parametersConstant : Obligations.ParametersConstant :=
  fun _ _ h hreset => (step_frame h hreset).1

/-- Settles O50: the second half of the step's frame. -/
theorem samplingLoopNeverLeft : Obligations.SamplingLoopNeverLeft :=
  fun _ _ h hreset => (step_frame h hreset).2

end Sys2Proof.Machine
end

section
/-! The sequencer's table (41_controller.md section 6) as what every invariant needs of it: when `SEQ` has a step, and for
each line of the table the next state of `ST`, what is added to the history, and what becomes of `RAW` and `AX`. -/

namespace Sys2Proof.Machine

/-! ### When an operation has a step (R22, R88, R188, R240) -/

/-- What an operation needs: the settle delay and a legal count, values in the registers it reads, or to be enabled. -/
def State.Enables (s : State) : Instr → Prop
  | .rdreg _ _ => s.settled = true
  | .wrreg _ _ _ => s.settled = true
  | .rdburst _ _ count => burstCountOk count = true ∧ s.settled = true
  | .settle => True
  | .waitrdy => True
  | .decode => ∃ b : Vector Byte 6, s.raw = b.map Datum.val
  | .scale => ∃ x y z, s.ax = axOf x y z
  | .emit => ∃ x y z, s.ax = axOf x y z
  | .rdyclr => True
  | .evtack => s.handlerEnabled = true

theorem enables_of_exec {i : Instr} {s t : State} (h : exec i s = .next t) : s.Enables i := by
  cases i
  case rdreg => obtain ⟨hs, -⟩ := execRdreg_eq_next h; exact hs
  case wrreg => obtain ⟨hs, -⟩ := execWrreg_eq_next h; exact hs
  case rdburst => obtain ⟨hc, hs, -⟩ := execRdburst_eq_next h; exact ⟨hc, hs⟩
  case settle => trivial
  case waitrdy => trivial
  case decode => obtain ⟨b, hb, -⟩ := execDecode_eq_next h; exact ⟨b, rawBytes_eq_some.mp hb⟩
  case scale => obtain ⟨a, ha, -⟩ := execScale_eq_next h; exact ⟨_, _, _, axValues_eq_some.mp ha⟩
  case emit => obtain ⟨a, ha, -⟩ := execEmit_eq_next h; exact ⟨_, _, _, axValues_eq_some.mp ha⟩
  case rdyclr => trivial
  case evtack => obtain ⟨hen, -⟩ := execEvtack_eq_next h; exact hen

/-- Before `SEQ` has a step its operation has one. -/
theorem enables_of_seqStep {s t : State} (h : seqStep s = .next t) : s.Enables s.issue := by
  rw [seqStep_eq] at h
  obtain ⟨u, hu, -⟩ := andThen_eq_next.mp h
  exact enables_of_exec hu

/-! ### The burst, whatever the length of the answer (R152; log 16) -/

/-- A burst of `BURST_LEN` bytes is complete where the transport says so and delivers six (R113). -/
theorem complete_burst_iff {a : Answer} : burstStatus a Config.burstLen = .ok ↔
    a.status = .ok ∧ ∃ b : Vector Byte 6, Answer.burstBytes a Config.burstLen = b.toList := by
  rw [burstStatus_eq_ok, and_congr_right_iff]
  intro _
  constructor
  · intro hlen
    exact ⟨⟨(Answer.burstBytes a Config.burstLen).toArray, hlen⟩, rfl⟩
  · rintro ⟨b, hb⟩
    rw [hb]
    exact b.length_toList

section burst
variable {s : State} (hst : s.st = .burst) (hs : s.settled = true)
include hst hs

theorem seqStep_of_failed_burst (ha : burstStatus s.answerNow Config.burstLen = .fail) :
    seqStep s = .next ({ s.busReadN Config.devAddr Config.regOutBase Config.burstLen with
      ts := .fail, raw := rawInvalid, st := .done }.raise .transportFailure) := by
  rw [seqStep_of_burst hst, exec_rdburst_of_failed _ _ (by decide) hs ha]; rfl

theorem seqStep_of_complete_burst {b : Vector Byte 6} (ha : s.answerNow.status = .ok)
    (hb : Answer.burstBytes s.answerNow Config.burstLen = b.toList) :
    seqStep s = .next { s.dropAnswer.record (sampleBurst b) with
      ts := .ok, raw := b.map Datum.val, st := .decode } := by
  have hstatus : burstStatus s.answerNow Config.burstLen = .ok := complete_burst_iff.mpr ⟨ha, b, hb⟩
  rw [seqStep_of_burst hst, exec_rdburst_of_complete _ _ (by decide) hs hstatus, State.busReadN, hb, fillRaw_six, ha]
  rfl

end burst

/-! ### The datapath, on values (R153 to R155) -/

theorem seqStep_of_raw {s : State} {b : Vector Byte 6} (hst : s.st = .decode) (hraw : s.raw = b.map Datum.val) :
    seqStep s = .next { s with
      ax := axOf (decodeAxis s.cfgMode (combine b[0] b[1])) (decodeAxis s.cfgMode (combine b[2] b[3]))
        (decodeAxis s.cfgMode (combine b[4] b[5])),
      st := afterDecode s.variant } := by
  rw [seqStep_of_decode hst, exec_decode_of_raw hraw]; rfl

theorem seqStep_of_counts {s : State} {x y z : Half} (hst : s.st = .scale) (hax : s.ax = axOf x y z) :
    seqStep s = .next { s with
      ax := axOf (scaleAxis s.cfgMode x) (scaleAxis s.cfgMode y) (scaleAxis s.cfgMode z), st := .emit } := by
  rw [seqStep_of_scale hst, exec_scale_of_ax hax]; rfl

theorem seqStep_of_payload {s : State} {x y z : Half} (hst : s.st = .emit) (hax : s.ax = axOf x y z) :
    seqStep s = .next { s with
      frame := frameRegs (frameOf s.variant x y z),
      history := s.history ++ [.frame (frameOf s.variant x y z).toList], st := .done } := by
  rw [seqStep_of_emit hst, exec_emit_of_ax hax]; rfl

/-! ### The table (R145 to R156) -/

/-- One line of the table: in the state of `ST` it names, a step of `SEQ` from `s` to `t` that adds the events. -/
inductive SeqRow (s t : State) : List Event → Prop
  | settle (hst : s.st = .settle) (hnext : t.st = .cfg1Rd) (hsettled : t.settled = true) : SeqRow s t []
  | ctrl1Read {status : Status} {value : Option Byte} (hst : s.st = .cfg1Rd) (hnext : t.st = .cfg4Rd ∨ t.st = .cfg1Wr) :
      SeqRow s t [.read1 Config.devAddr Config.regCtrl1 status value]
  | ctrl1Write {status : Status} (hst : s.st = .cfg1Wr) (hnext : t.st = .cfg4Rd) :
      SeqRow s t [.write1 Config.devAddr Config.regCtrl1 s.target1 status]
  | ctrl4Read {status : Status} {value : Option Byte} (hst : s.st = .cfg4Rd) (hnext : t.st = .idle ∨ t.st = .cfg4Wr) :
      SeqRow s t [.read1 Config.devAddr Config.regCtrl4 status value]
  | ctrl4Write {status : Status} (hst : s.st = .cfg4Wr) (hnext : t.st = .idle) :
      SeqRow s t [.write1 Config.devAddr Config.regCtrl4 s.target4 status]
  | pending (hst : s.st = .idle) (hnext : t.st = .idle) : SeqRow s t []
  | released (hst : s.st = .idle) (hnext : t.st = .status) : SeqRow s t []
  | noSample {status : Status} {value : Option Byte} (hst : s.st = .status) (hnext : t.st = .done) :
      SeqRow s t [.read1 Config.devAddr Config.regStatus status value]
  | sample {value : Byte} (hst : s.st = .status) (hnext : t.st = .burst) (hnd : newData value = true) :
      SeqRow s t [.read1 Config.devAddr Config.regStatus .ok (some value)]
  | failedBurst {status : Status} {bytes : List Byte} (hst : s.st = .burst) (hnext : t.st = .done) :
      SeqRow s t [.readN Config.devAddr (burstAddr Config.regOutBase) Config.burstLen status bytes]
  | burst {b : Vector Byte 6} (hst : s.st = .burst) (hnext : t.st = .decode) (hraw : t.rawBytes = some b) :
      SeqRow s t [sampleBurst b]
  | decode {b : Vector Byte 6} (hst : s.st = .decode)
      (hnext : s.variant = .reference ∧ t.st = .scale ∨ s.variant = .historical ∧ t.st = .emit)
      (hraw : s.rawBytes = some b)
      (hax : t.ax = axOf (decodeAxis s.cfgMode (combine b[0] b[1])) (decodeAxis s.cfgMode (combine b[2] b[3]))
        (decodeAxis s.cfgMode (combine b[4] b[5]))) : SeqRow s t []
  | scale {x y z : Half} (hst : s.st = .scale) (hnext : t.st = .emit) (hax : s.ax = axOf x y z)
      (hax' : t.ax = axOf (scaleAxis s.cfgMode x) (scaleAxis s.cfgMode y) (scaleAxis s.cfgMode z)) : SeqRow s t []
  | emit {x y z : Half} (hst : s.st = .emit) (hnext : t.st = .done) (hax : s.ax = axOf x y z) :
      SeqRow s t [.frame (frameOf s.variant x y z).toList]
  | done (hst : s.st = .done) (hnext : t.st = .idle) : SeqRow s t []

/-- `SEQ` has a step whenever its operation has what it needs, and the step is a line of the table. -/
theorem seqStep_of_enables {s : State} (h : s.Enables s.issue) :
    ∃ t es, seqStep s = .next t ∧ SeqRow s t es ∧ t.history = s.history ++ es := by
  have hnone : s.history = s.history ++ [] := (List.append_nil _).symm
  cases hst : s.st <;> simp only [State.issue, hst, State.Enables] at h
  case settle => exact ⟨_, _, settleState.2 s hst, .settle hst rfl rfl, hnone⟩
  case cfg1Rd =>
    obtain ⟨t, status, value, hstep, hnext, hadds⟩ := (configRead_ctrl1 hst h).total h
    exact ⟨t, _, hstep, .ctrl1Read hst hnext, hadds.history⟩
  case cfg1Wr =>
    obtain ⟨t, status, hstep, hnext, hadds⟩ := (configWrite_ctrl1 hst h).total h
    exact ⟨t, _, hstep, .ctrl1Write hst hnext, hadds.history⟩
  case cfg4Rd =>
    obtain ⟨t, status, value, hstep, hnext, hadds⟩ := (configRead_ctrl4 hst h).total h
    exact ⟨t, _, hstep, .ctrl4Read hst hnext, hadds.history⟩
  case cfg4Wr =>
    obtain ⟨t, status, hstep, hnext, hadds⟩ := (configWrite_ctrl4 hst h).total h
    exact ⟨t, _, hstep, .ctrl4Write hst hnext, hadds.history⟩
  case idle =>
    cases hready : s.readyEvent
    case false =>
      obtain ⟨hs, hr⟩ := readyEvent_eq_false.mp hready
      exact ⟨_, _, seqStep_of_idle_pending hst hs hr, .pending hst hst, hnone⟩
    case true =>
      obtain ⟨-, -, hstep⟩ := idleState.2 s hst (readyEvent_iff.mp hready)
      exact ⟨_, _, hstep, .released hst rfl, hnone⟩
  case status =>
    obtain ⟨failed, set, clear⟩ := statusState.2 s hst h
    cases ha : s.answerNow.status
    case fail => exact ⟨_, _, failed ha, .noSample hst rfl, rfl⟩
    case ok =>
      cases hbit : s.answerNow.value.getLsbD 3
      case false => exact ⟨_, _, clear ha hbit, .noSample hst rfl, rfl⟩
      case true => exact ⟨_, _, set ha hbit, .sample hst rfl (newData_eq_getLsbD _ ▸ hbit), rfl⟩
  case burst =>
    cases ha : burstStatus s.answerNow Config.burstLen
    case fail => exact ⟨_, _, seqStep_of_failed_burst hst h.2 ha, .failedBurst hst rfl, rfl⟩
    case ok =>
      obtain ⟨hok, b, hb⟩ := complete_burst_iff.mp ha
      exact ⟨_, _, seqStep_of_complete_burst hst h.2 hok hb, .burst hst rfl (rawBytes_eq_some.mpr rfl), rfl⟩
  case decode =>
    obtain ⟨b, hraw⟩ := h
    have hnext : s.variant = .reference ∧ afterDecode s.variant = .scale ∨
        s.variant = .historical ∧ afterDecode s.variant = .emit := by
      cases s.variant <;> simp [afterDecode]
    exact ⟨_, _, seqStep_of_raw hst hraw, .decode hst hnext (rawBytes_eq_some.mpr hraw) rfl, hnone⟩
  case scale =>
    obtain ⟨x, y, z, hax⟩ := h
    exact ⟨_, _, seqStep_of_counts hst hax, .scale hst rfl hax rfl, hnone⟩
  case emit =>
    obtain ⟨x, y, z, hax⟩ := h
    exact ⟨_, _, seqStep_of_payload hst hax, .emit hst rfl hax, rfl⟩
  case done => exact ⟨_, _, doneState.2 s hst, .done hst rfl, hnone⟩

/-- Every step of `SEQ` is a line of the table. -/
theorem seqStep_row {s t : State} (h : seqStep s = .next t) :
    ∃ es, SeqRow s t es ∧ t.history = s.history ++ es := by
  obtain ⟨t', es, hstep, hrow⟩ := seqStep_of_enables (enables_of_seqStep h)
  obtain rfl : t = t' := Host.Outcome.next.inj (h.symm.trans hstep)
  exact ⟨es, hrow⟩

/-- What a step of `SEQ` leaves as it was. -/
theorem seqStep_frame {s t : State} (h : seqStep s = .next t) :
    t.params = s.params ∧ t.direct = s.direct ∧ (s.settled = true → t.settled = true) := by
  rw [seqStep_eq] at h
  obtain ⟨u, hu, ht⟩ := andThen_eq_next.mp h
  obtain ⟨-, hparams, -, hdirect, hsettled, -⟩ := exec_frame hu
  obtain ⟨hparams', hdirect', hsettled', -⟩ := complete_frame ht
  exact ⟨hparams'.trans hparams, hdirect'.trans hdirect, fun hs => hsettled' ▸ hsettled hs⟩

/-- Settles O15: `SEQ` has a step exactly where its operation has what it needs, and neither `ST`, which says what the
operation is, nor anything it needs is an answer. -/
theorem answersNeverBlock : Obligations.AnswersNeverBlock := by
  have hiff (u : State) : (∃ t, seqStep u = .next t) ↔ u.Enables u.issue := by
    refine ⟨fun ⟨t, ht⟩ => enables_of_seqStep ht, fun h => ?_⟩
    obtain ⟨t, -, ht, -⟩ := seqStep_of_enables h
    exact ⟨t, ht⟩
  intro s l l' k k'
  rw [hiff, hiff]
  exact Iff.rfl

end Sys2Proof.Machine
end

section
/-! What the lines of the sequencer's table say about where a step leads and what it adds: the inversions that the
invariants of the wired machine are made of. -/

namespace Sys2Proof.Machine

theorem variant_of_params_eq {s t : State} (h : t.params = s.params) : t.variant = s.variant :=
  congrArg Params.variant h

theorem cfgMode_of_params_eq {s t : State} (h : t.params = s.params) : t.cfgMode = s.cfgMode :=
  congrArg Params.mode h

theorem strategy_of_params_eq {s t : State} (h : t.params = s.params) : t.strategy = s.strategy :=
  congrArg Params.strategy h

/-! ### By the next state -/

section rows
variable {s t : State} {es : List Event} (h : SeqRow s t es)
include h

/-- Only a status read with the new-data bit set leads to `S_BURST` (R151). -/
theorem SeqRow.of_next_burst (hn : t.st = .burst) :
    ∃ v, es = [.read1 Config.devAddr Config.regStatus .ok (some v)] ∧ newData v = true := by
  cases h
  case sample v hst hnext hnd => exact ⟨v, rfl, hnd⟩
  all_goals simp_all

/-- Only a complete burst leads to `S_DECODE` (R152). -/
theorem SeqRow.of_next_decode (hn : t.st = .decode) : ∃ b, es = [sampleBurst b] ∧ t.rawBytes = some b := by
  cases h
  case burst b hst hnext hraw => exact ⟨b, rfl, hraw⟩
  all_goals simp_all

/-- Only `DECODE` in the REFERENCE variant leads to `S_SCALE` (R153). -/
theorem SeqRow.of_next_scale (hn : t.st = .scale) :
    es = [] ∧ s.st = .decode ∧ s.variant = .reference ∧ ∃ b, s.rawBytes = some b ∧
      t.ax = axOf (decodeAxis s.cfgMode (combine b[0] b[1])) (decodeAxis s.cfgMode (combine b[2] b[3]))
        (decodeAxis s.cfgMode (combine b[4] b[5])) := by
  cases h
  case decode b hst hnext hraw hax =>
    rcases hnext with ⟨hv, -⟩ | ⟨-, hnext⟩
    · exact ⟨rfl, hst, hv, b, hraw, hax⟩
    · cases hn.symm.trans hnext
  all_goals simp_all

/-- `DECODE` in the HISTORICAL variant and `SCALE` lead to `S_EMIT` (R153, R154). -/
theorem SeqRow.of_next_emit (hn : t.st = .emit) :
    es = [] ∧
    ((s.st = .decode ∧ s.variant = .historical ∧ ∃ b, s.rawBytes = some b ∧
      t.ax = axOf (decodeAxis s.cfgMode (combine b[0] b[1])) (decodeAxis s.cfgMode (combine b[2] b[3]))
        (decodeAxis s.cfgMode (combine b[4] b[5]))) ∨
    (s.st = .scale ∧ ∃ x y z, s.ax = axOf x y z ∧
      t.ax = axOf (scaleAxis s.cfgMode x) (scaleAxis s.cfgMode y) (scaleAxis s.cfgMode z))) := by
  cases h
  case decode b hst hnext hraw hax =>
    rcases hnext with ⟨-, hnext⟩ | ⟨hv, -⟩
    · cases hn.symm.trans hnext
    · exact ⟨rfl, .inl ⟨hst, hv, b, hraw, hax⟩⟩
  case scale x y z hst hnext hax hax' => exact ⟨rfl, .inr ⟨hst, x, y, z, hax, hax'⟩⟩
  all_goals simp_all

/-- Once it has left `S_SETTLE` the machine has settled (R145), and it never goes back there. -/
theorem SeqRow.settled_or_past : t.settled = true ∨ s.st ≠ .settle := by
  cases h
  case settle hst hnext hsettled => exact .inl hsettled
  all_goals exact .inr (by simp_all)

/-- A sampling step goes on until `S_DONE` (R161). -/
theorem SeqRow.inSample (hs : s.st.inSample = true) (hne : s.st ≠ .done) : t.st.inSample = true := by
  cases h
  case decode hst hnext _ _ => rcases hnext with ⟨-, hnext⟩ | ⟨-, hnext⟩ <;> rw [hnext] <;> rfl
  all_goals simp_all [SeqState.inSample]

theorem SeqRow.afterStatus (hs : s.st.afterStatus = true) (hne : s.st ≠ .done) : t.st.afterStatus = true := by
  cases h
  case decode hst hnext _ _ => rcases hnext with ⟨-, hnext⟩ | ⟨-, hnext⟩ <;> rw [hnext] <;> rfl
  all_goals simp_all [SeqState.afterStatus]

/-- What lies before the write of `CTRL1` is reached from before it, and not by the write (R145 to R147). -/
theorem SeqRow.of_next_beforeCtrl1Write (hn : t.st.beforeCtrl1Write = true) :
    s.st.beforeCtrl1Write = true ∧ s.st ≠ .cfg1Wr := by
  cases h
  case ctrl1Read hst hnext => simp [hst, SeqState.beforeCtrl1Write]
  case settle hst hnext hsettled => simp [hst, SeqState.beforeCtrl1Write]
  case ctrl4Read hst hnext => rcases hnext with hnext | hnext <;> simp [hnext, SeqState.beforeCtrl1Write] at hn
  case decode hst hnext _ _ =>
    rcases hnext with ⟨-, hnext⟩ | ⟨-, hnext⟩ <;> simp [hnext, SeqState.beforeCtrl1Write] at hn
  all_goals simp_all [SeqState.beforeCtrl1Write]

/-- The initialization is reached from within, and not by the write of `CTRL4` (R145 to R149). -/
theorem SeqRow.of_next_inInit (hn : t.st.inInit = true) : s.st.inInit = true ∧ s.st ≠ .cfg4Wr := by
  cases h
  case decode hst hnext _ _ =>
    rcases hnext with ⟨-, hnext⟩ | ⟨-, hnext⟩ <;> simp [hnext, SeqState.inInit] at hn
  all_goals simp_all [SeqState.inInit]

/-! ### By what is added to the history -/

theorem SeqRow.eq_nil_or_singleton : es = [] ∨ ∃ e, es = [e] := by
  cases h
  case settle => exact .inl rfl
  case pending => exact .inl rfl
  case released => exact .inl rfl
  case decode => exact .inl rfl
  case scale => exact .inl rfl
  case done => exact .inl rfl
  all_goals exact .inr ⟨_, rfl⟩

/-- Only `S_EMIT` writes a frame, that of the values in `AX` (R155, R171). -/
theorem SeqRow.of_frame_mem {bytes : List Byte} (hmem : Event.frame bytes ∈ es) :
    s.st = .emit ∧ ∃ x y z, s.ax = axOf x y z ∧ bytes = (frameOf s.variant x y z).toList := by
  cases h
  case emit x y z hst hnext hax =>
    obtain rfl := Event.frame.inj (List.mem_singleton.mp hmem)
    exact ⟨hst, x, y, z, hax, rfl⟩
  all_goals simp [sampleBurst] at hmem

/-- Only `S_BURST` makes a burst (R152). -/
theorem SeqRow.of_readN_mem {dev : DevAddr} {start : RegAddr} {count : Byte} {status : Status} {bytes : List Byte}
    (hmem : Event.readN dev start count status bytes ∈ es) : s.st = .burst := by
  cases h
  case failedBurst hst _ => exact hst
  case burst hst _ _ => exact hst
  all_goals simp at hmem

/-- The table makes the requests of R87 and no others. -/
theorem SeqRow.isWiredRequest {e : Event} (hmem : e ∈ es) : e.IsWiredRequest s.target1 s.target4 := by
  cases h <;> simp only [List.not_mem_nil, List.mem_singleton] at hmem <;> subst hmem <;>
    simp [Event.IsWiredRequest, sampleBurst]

/-- One write of `CTRL1`, in `S_CFG1_WR` (R147). -/
theorem SeqRow.countP_isWriteTo_ctrl1 :
    es.countP (Event.isWriteTo Config.regCtrl1) = if s.st = .cfg1Wr then 1 else 0 := by
  cases h <;> simp [*, Event.isWriteTo, sampleBurst, Config.regCtrl1, Config.regCtrl4]

/-- One write of `CTRL4`, in `S_CFG4_WR` (R149). -/
theorem SeqRow.countP_isWriteTo_ctrl4 :
    es.countP (Event.isWriteTo Config.regCtrl4) = if s.st = .cfg4Wr then 1 else 0 := by
  cases h <;> simp [*, Event.isWriteTo, sampleBurst, Config.regCtrl1, Config.regCtrl4]

end rows

end Sys2Proof.Machine
end

section
/-! The invariants of the machine: each holds at reset (R41) and is kept by every step, most of them on the wired
machine alone; and the wired machine always has a step (R204). -/

namespace Sys2Proof.Machine

/-! ### What keeps an invariant -/

/-- What reads neither the lines nor the inputs nor `EVT_PEND` is kept by a step of any machine when a reset brings it
about, every operation keeps it and every record of `SEQ` keeps it. -/
theorem step_keeps_of_exec {P : State → Prop} (hreset : ∀ s p, P (State.restart s p))
    (hinput : ∀ (s : State) (held evtPend : Bool) (direct : Option OpWord) (moves : List Move) (draw : Nat),
      P s → P { s with held := held, evtPend := evtPend, direct := direct, moves := moves, draw := draw })
    (hexec : ∀ {i : Instr} {s t : State}, P s → exec i s = .next t → P t)
    (hcomplete : ∀ {s t : State}, P s → complete s = .next t → P t)
    {s t : State} (hs : P s) (h : step s = .next t) : P t := by
  rcases step_eq_next h with ⟨w, u, -, hu, rfl⟩ | ⟨-, u, hu, ht⟩ | ⟨-, hevt⟩ | ⟨-, rfl⟩ | ⟨p, -, rfl⟩
  case inl =>
    obtain ⟨i, hi⟩ := runWord_eq_next hu
    exact hinput u u.held u.evtPend _ u.moves u.draw (hexec (hinput s _ s.evtPend _ _ _ hs) hi)
  case inr.inl =>
    obtain ⟨i, hi⟩ := runWord_eq_next hu
    exact hcomplete (hexec (hinput s s.held s.evtPend s.direct _ _ hs) hi) ht
  case inr.inr.inl => exact hexec (i := .evtack) (hinput s s.held s.evtPend s.direct _ _ hs) hevt
  case inr.inr.inr.inl => exact hinput s s.held true s.direct _ _ hs
  case inr.inr.inr.inr => exact hreset _ p

/-- A step of the wired machine is one of `SEQ`, a reset, or one of the handler or the event source, which writes
nothing but `RDY` and `EVT_PEND` (R188, R189, R212). -/
theorem State.Wired.step_keeps {P : State → Prop} (hreset : ∀ s p, P (State.restart s p))
    (hquiet : ∀ (s : State) (rdy evtPend : Bool), P s → P { s.dropMove with rdy := rdy, evtPend := evtPend })
    (hseq : ∀ {s t : State}, P s → seqStep s = .next t → P t)
    {s t : State} (hw : s.Wired) (hs : P s) (h : step s = .next t) : P t := by
  rcases step_eq_next h with ⟨w, u, hturn, -⟩ | ⟨hturn, -⟩ | ⟨-, hevt⟩ | ⟨-, rfl⟩ | ⟨p, -, rfl⟩
  case inl => exact absurd hturn (turn_ne_direct hw w)
  case inr.inl => exact hseq (hquiet s s.rdy s.evtPend hs) (step_of_sequencer hturn ▸ h)
  case inr.inr.inl => obtain ⟨-, rfl⟩ := execEvtack_eq_next hevt; exact hquiet s true false hs
  case inr.inr.inr.inl => exact hquiet s s.rdy true hs
  case inr.inr.inr.inr => exact hreset _ p

/-! ### The wired machine never stops (R22, R204, R240) -/

theorem wired_resetWith (p : Params) : (State.resetWith p).Wired := rfl

theorem ready_resetWith (p : Params) : (State.resetWith p).Ready :=
  ⟨fun h => absurd rfl h, nofun, by rintro (h | h) <;> cases h⟩

/-- A ready machine's operation has what it needs. -/
theorem State.Ready.enables {s : State} (h : s.Ready) : s.Enables s.issue := by
  obtain ⟨hsettled, hraw, hax⟩ := h
  have hvalues (hst : s.st = .scale ∨ s.st = .emit) : ∃ x y z, s.ax = axOf x y z := by
    obtain ⟨a, ha⟩ := Option.isSome_iff_exists.mp (hax hst)
    exact ⟨_, _, _, axValues_eq_some.mp ha⟩
  cases hst : s.st <;> simp only [State.issue, hst, State.Enables]
  case burst => exact ⟨by decide, hsettled (by simp [hst])⟩
  case decode =>
    obtain ⟨b, hb⟩ := Option.isSome_iff_exists.mp (hraw hst)
    exact ⟨b, rawBytes_eq_some.mp hb⟩
  case scale => exact hvalues (.inl hst)
  case emit => exact hvalues (.inr hst)
  all_goals exact hsettled (by simp [hst])

/-- A line of the table leads to a state whose operation has what it reads. -/
theorem seqStep_keeps_ready {s t : State} (hs : s.Ready) (h : seqStep s = .next t) : t.Ready := by
  obtain ⟨es, hrow, -⟩ := seqStep_row h
  obtain ⟨-, -, hkeep⟩ := seqStep_frame h
  obtain ⟨hsettled, -, -⟩ := hs
  refine ⟨fun _ => ?settled, fun hn => ?raw, fun hn => ?ax⟩
  case settled =>
    rcases hrow.settled_or_past with hset | hpast
    · exact hset
    · exact hkeep (hsettled hpast)
  case raw =>
    obtain ⟨b, -, hraw⟩ := hrow.of_next_decode hn
    rw [hraw]; rfl
  case ax =>
    have hfilled : ∃ x y z, t.ax = axOf x y z := by
      rcases hn with hn | hn
      · obtain ⟨-, -, -, b, -, hax⟩ := hrow.of_next_scale hn
        exact ⟨_, _, _, hax⟩
      · obtain ⟨-, ⟨-, -, b, -, hax⟩ | ⟨-, x, y, z, -, hax⟩⟩ := hrow.of_next_emit hn
        · exact ⟨_, _, _, hax⟩
        · exact ⟨_, _, _, hax⟩
    obtain ⟨x, y, z, hax⟩ := hfilled
    rw [axValues_axOf hax]; rfl

theorem seqStep_keeps_wired {s t : State} (hs : s.Wired) (h : seqStep s = .next t) : t.Wired := by
  obtain ⟨-, hdirect, -⟩ := seqStep_frame h
  exact hdirect.trans hs

/-- Whoever's turn it is on the wired machine, there is a step: `SEQ`'s operation has what it needs, and the handler
gets no turn in which it is not enabled (log 9). -/
theorem step_total_of_wired {s : State} (hw : s.Wired) (hr : s.Ready) : ∃ t, step s = .next t := by
  cases hturn : s.turn
  case direct w => exact absurd hturn (turn_ne_direct hw w)
  case sequencer =>
    have hready : s.dropMove.Ready := hr
    obtain ⟨t, -, ht, -⟩ := seqStep_of_enables hready.enables
    exact ⟨t, (step_of_sequencer hturn).trans ht⟩
  case handler =>
    have hen : s.handlerEnabled = true := handlerEnabled_of_turn hturn
    exact ⟨_, (step_of_handler hturn).trans (exec_evtack_of_enabled (s := s.dropMove) hen)⟩
  case trigger => exact ⟨_, step_of_trigger hturn⟩
  case reset p => exact ⟨_, step_of_reset hturn⟩

/-- Settles O52: there is a step, and both properties are invariants of the wired machine. -/
theorem wiredMachineNeverStops : Obligations.WiredMachineNeverStops := by
  intro s hw hr
  obtain ⟨t, ht⟩ := step_total_of_wired hw hr
  exact ⟨t, ht,
    hw.step_keeps (fun _ p => wired_resetWith p) (fun _ _ _ h => h) seqStep_keeps_wired hw ht,
    hw.step_keeps (fun _ p => ready_resetWith p) (fun _ _ _ h => h) seqStep_keeps_ready hr ht⟩

/-! ### Every frame has its shape (R175) -/

theorem frameShape_frameOf (variant : Variant) (x y z : Half) : frameShape (frameOf variant x y z).toList :=
  ⟨rfl, rfl, rfl⟩

theorem framesShaped_resetWith (p : Params) : (State.resetWith p).FramesShaped := by
  simp [State.FramesShaped, State.resetWith]

/-- An operation adds a bus transaction, which is no frame, or a frame of the emitter, or nothing. -/
theorem exec_keeps_framesShaped {i : Instr} {s t : State} (hs : s.FramesShaped) (h : exec i s = .next t) :
    t.FramesShaped := by
  obtain ⟨-, -, -, -, -, -, hh | ⟨e, he, hh⟩ | ⟨x, y, z, hh⟩⟩ := exec_frame h <;> intro bytes hmem <;> rw [hh] at hmem
  · exact hs bytes hmem
  · rcases List.mem_append.mp hmem with hold | hnew
    · exact hs bytes hold
    · obtain rfl := List.mem_singleton.mp hnew
      cases he
  · rcases List.mem_append.mp hmem with hold | hnew
    · exact hs bytes hold
    · obtain rfl := Event.frame.inj (List.mem_singleton.mp hnew)
      exact frameShape_frameOf _ _ _ _

/-- The records of `SEQ` leave the history as it was. -/
theorem complete_keeps_framesShaped {s t : State} (hs : s.FramesShaped) (h : complete s = .next t) :
    t.FramesShaped := by
  obtain ⟨-, -, -, hh, -⟩ := complete_frame h
  rwa [State.FramesShaped, hh]

/-- Settles O53: operations and records keep it, and a reset empties the history. -/
theorem framesShapedKept : Obligations.FramesShapedKept := fun _ _ hs h =>
  step_keeps_of_exec (fun _ p => framesShaped_resetWith p) (fun _ _ _ _ _ _ h => h) exec_keeps_framesShaped
    complete_keeps_framesShaped hs h

/-! ### Histories in which each entry depends on what stands before it -/

/-- Every entry of the history stands in the relation `Q` to what comes before it. -/
def EachAfter (Q : List Event → Event → Prop) (h : List Event) : Prop :=
  ∀ pre e post, h = pre ++ e :: post → Q pre e

theorem EachAfter.concat {Q : List Event → Event → Prop} {h : List Event} {e : Event} (hh : EachAfter Q h)
    (he : Q h e) : EachAfter Q (h ++ [e]) := by
  intro pre x post heq
  rcases List.eq_nil_or_concat post with rfl | ⟨post', y, rfl⟩
  · obtain ⟨rfl, hx⟩ := List.append_inj' heq rfl
    obtain rfl := List.singleton_inj.mp hx
    exact he
  · rw [List.concat_eq_append, ← List.cons_append, ← List.append_assoc] at heq
    obtain ⟨hold, -⟩ := List.append_inj' heq rfl
    exact hh pre x post' hold

/-- A line of the sequencer's table adds at most one entry. -/
theorem SeqRow.eachAfter {Q : List Event → Event → Prop} {h : List Event} {s t : State} {es : List Event}
    (hrow : SeqRow s t es) (hh : EachAfter Q h) (he : ∀ e ∈ es, Q h e) : EachAfter Q (h ++ es) := by
  rcases hrow.eq_nil_or_singleton with rfl | ⟨e, rfl⟩
  · rwa [List.append_nil]
  · exact hh.concat (he e (List.mem_singleton.mpr rfl))

/-! ### Every frame is that of the burst before it (R161, R170) -/

/-- If the entry is a frame, it stands directly after a complete burst and is the frame of its six bytes. -/
def FrameAfterBurst (variant : Variant) (mode : Mode) (pre : List Event) (e : Event) : Prop :=
  ∀ bytes, e = .frame bytes → ∃ before b, pre = before ++ [sampleBurst b] ∧ bytes = frameOfSample variant mode b

theorem framesFromBursts_iff {s : State} :
    s.FramesFromBursts ↔ EachAfter (FrameAfterBurst s.variant s.cfgMode) s.history :=
  ⟨fun h pre _ post heq bytes he => h pre bytes post (he ▸ heq), fun h pre bytes post heq => h pre _ post heq bytes rfl⟩

theorem framesFromBursts_resetWith (p : Params) : (State.resetWith p).FramesFromBursts := by
  simp [State.FramesFromBursts, State.resetWith]

theorem sampleInFlight_resetWith (p : Params) : (State.resetWith p).SampleInFlight := ⟨nofun, nofun, nofun⟩

theorem axOf_inj {x y z x' y' z' : Half} : axOf x y z = axOf x' y' z' ↔ x = x' ∧ y = y' ∧ z = z' := by
  simp [axOf]

/-- The frame `S_EMIT` writes is that of the sample in flight, whose burst is the last entry. -/
theorem seqStep_keeps_framesFromBursts {s t : State} (hs : s.FramesFromBursts) (hin : s.SampleInFlight)
    (h : seqStep s = .next t) : t.FramesFromBursts := by
  obtain ⟨es, hrow, hh⟩ := seqStep_row h
  obtain ⟨hparams, -, -⟩ := seqStep_frame h
  rw [framesFromBursts_iff] at hs ⊢
  rw [variant_of_params_eq hparams, cfgMode_of_params_eq hparams, hh]
  refine hrow.eachAfter hs fun e he bytes hframe => ?_
  subst hframe
  obtain ⟨hst, x, y, z, hax, rfl⟩ := hrow.of_frame_mem he
  obtain ⟨-, -, hemit⟩ := hin
  obtain ⟨before, b, hb, hax'⟩ := hemit hst
  obtain ⟨rfl, rfl, rfl⟩ := axOf_inj.mp (hax.symm.trans hax')
  exact ⟨before, b, hb, rfl⟩

/-- `RAW`, then the counts, then the payload are those of the last burst as the sample goes from state to state. -/
theorem seqStep_keeps_sampleInFlight {s t : State} (hin : s.SampleInFlight) (h : seqStep s = .next t) :
    t.SampleInFlight := by
  obtain ⟨es, hrow, hh⟩ := seqStep_row h
  obtain ⟨hparams, -, -⟩ := seqStep_frame h
  obtain ⟨hdecode, hscale, -⟩ := hin
  rw [State.SampleInFlight, variant_of_params_eq hparams, cfgMode_of_params_eq hparams, hh]
  refine ⟨fun hn => ?decode, fun hn => ?scale, fun hn => ?emit⟩
  case decode =>
    obtain ⟨b, rfl, hraw⟩ := hrow.of_next_decode hn
    exact ⟨s.history, b, rfl, hraw⟩
  case scale =>
    obtain ⟨rfl, hst, hv, b, hraw, hax⟩ := hrow.of_next_scale hn
    obtain ⟨before, b', hb, hraw'⟩ := hdecode hst
    obtain rfl : b = b' := Option.some.inj (hraw.symm.trans hraw')
    exact ⟨hv, before, b, by rw [hb, List.append_nil], hax⟩
  case emit =>
    obtain ⟨rfl, ⟨hst, hv, b, hraw, hax⟩ | ⟨hst, x, y, z, hax, hax'⟩⟩ := hrow.of_next_emit hn
    · obtain ⟨before, b', hb, hraw'⟩ := hdecode hst
      obtain rfl : b = b' := Option.some.inj (hraw.symm.trans hraw')
      exact ⟨before, b, by rw [hb, List.append_nil], by rw [hax, hv]; rfl⟩
    · obtain ⟨hv, before, b, hb, hcounts⟩ := hscale hst
      obtain ⟨rfl, rfl, rfl⟩ := axOf_inj.mp (hax.symm.trans hcounts)
      exact ⟨before, b, by rw [hb, List.append_nil], by rw [hax', hv]; rfl⟩

/-- Settles O54: the two properties are one invariant of the wired machine. -/
theorem framesFromBurstsKept : Obligations.FramesFromBurstsKept := by
  intro s t hw hs hin h
  exact hw.step_keeps (P := fun u => u.FramesFromBursts ∧ u.SampleInFlight)
    (fun _ p => ⟨framesFromBursts_resetWith p, sampleInFlight_resetWith p⟩) (fun _ _ _ h => h)
    (fun ⟨hu, huin⟩ hstep => ⟨seqStep_keeps_framesFromBursts hu huin hstep, seqStep_keeps_sampleInFlight huin hstep⟩)
    ⟨hs, hin⟩ h

/-! ### Every burst stands after a status read with new data (R242) -/

/-- If the entry is a burst, it stands directly after a status read that found the new-data bit set. -/
def BurstAfterStatus (pre : List Event) (e : Event) : Prop :=
  ∀ dev start count status bytes, e = .readN dev start count status bytes →
    ∃ (before : List Event) (e' : Event), pre = before ++ [e'] ∧ e'.IsDataReadyRead

theorem burstsAfterStatus_iff {s : State} :
    s.BurstsAfterStatus ↔ EachAfter BurstAfterStatus s.history ∧
      (s.st = .burst → ∃ before e, s.history = before ++ [e] ∧ e.IsDataReadyRead) :=
  and_congr_left fun _ => ⟨fun h pre _ post heq dev start count status bytes he =>
    h pre dev start count status bytes post (he ▸ heq),
    fun h pre _ _ _ _ _ post heq => h pre _ post heq _ _ _ _ _ rfl⟩

theorem burstsAfterStatus_resetWith (p : Params) : (State.resetWith p).BurstsAfterStatus := by
  simp [State.BurstsAfterStatus, State.resetWith]

theorem seqStep_keeps_burstsAfterStatus {s t : State} (hs : s.BurstsAfterStatus) (h : seqStep s = .next t) :
    t.BurstsAfterStatus := by
  obtain ⟨es, hrow, hh⟩ := seqStep_row h
  rw [burstsAfterStatus_iff] at hs ⊢
  obtain ⟨hbefore, hburst⟩ := hs
  rw [hh]
  refine ⟨hrow.eachAfter hbefore fun e he dev start count status bytes hreadN => ?made, fun hn => ?next⟩
  case made =>
    subst hreadN
    exact hburst (hrow.of_readN_mem he)
  case next =>
    obtain ⟨v, rfl, hnd⟩ := hrow.of_next_burst hn
    exact ⟨s.history, _, rfl, v, rfl, hnd⟩

/-- Settles O55: `S_BURST` is entered from a status read that found the bit set, and only `S_BURST` makes a burst. -/
theorem burstsAfterStatusKept : Obligations.BurstsAfterStatusKept := fun _ _ hw hs h =>
  hw.step_keeps (fun _ p => burstsAfterStatus_resetWith p) (fun _ _ _ h => h) seqStep_keeps_burstsAfterStatus hs h

/-! ### The requests of the wired machine (R50, R53, R87) -/

theorem requestsWired_resetWith (p : Params) : (State.resetWith p).RequestsWired := by
  simp [State.RequestsWired, State.resetWith]

theorem seqStep_keeps_requestsWired {s t : State} (hs : s.RequestsWired) (h : seqStep s = .next t) :
    t.RequestsWired := by
  obtain ⟨es, hrow, hh⟩ := seqStep_row h
  obtain ⟨hparams, -, -⟩ := seqStep_frame h
  rw [State.RequestsWired, target1_of_params_eq hparams, target4_of_params_eq hparams, hh]
  intro e he
  rcases List.mem_append.mp he with hold | hnew
  · exact hs e hold
  · exact hrow.isWiredRequest hnew

/-- Settles O56: every line of the table makes a request of the map, and the targets are constant in a run. -/
theorem requestsWiredKept : Obligations.RequestsWiredKept := fun _ _ hw hs h =>
  hw.step_keeps (fun _ p => requestsWired_resetWith p) (fun _ _ _ h => h) seqStep_keeps_requestsWired hs h

/-! ### Each control register is written once (R68, R134) -/

theorem writesOnce_resetWith (p : Params) : (State.resetWith p).WritesOnce := by
  simp [State.WritesOnce, State.writesTo, State.resetWith]

theorem writesTo_of_history {s t : State} {es : List Event} (hh : t.history = s.history ++ es) (reg : RegAddr) :
    t.writesTo reg = s.writesTo reg + es.countP (Event.isWriteTo reg) := by
  rw [State.writesTo, hh, List.countP_append, ← State.writesTo]

theorem seqStep_keeps_writesOnce {s t : State} (hs : s.WritesOnce) (h : seqStep s = .next t) : t.WritesOnce := by
  obtain ⟨es, hrow, hh⟩ := seqStep_row h
  obtain ⟨h1, h4, hbefore1, hbefore4⟩ := hs
  rw [State.WritesOnce, writesTo_of_history hh, writesTo_of_history hh, hrow.countP_isWriteTo_ctrl1,
    hrow.countP_isWriteTo_ctrl4]
  refine ⟨?ctrl1, ?ctrl4, fun hn => ?unwritten1, fun hn => ?unwritten4⟩
  case ctrl1 =>
    split
    case isTrue hst => simp [hbefore1 (by rw [hst]; rfl)]
    case isFalse => exact h1
  case ctrl4 =>
    split
    case isTrue hst => simp [hbefore4 (by rw [hst]; rfl)]
    case isFalse => exact h4
  case unwritten1 =>
    obtain ⟨hin, hne⟩ := hrow.of_next_beforeCtrl1Write hn
    simp [hbefore1 hin, hne]
  case unwritten4 =>
    obtain ⟨hin, hne⟩ := hrow.of_next_inInit hn
    simp [hbefore4 hin, hne]

/-- Settles O57: the write states are left by their one write and never entered again. -/
theorem writesOnceKept : Obligations.WritesOnceKept := fun _ _ hw hs h =>
  hw.step_keeps (fun _ p => writesOnce_resetWith p) (fun _ _ _ h => h) seqStep_keeps_writesOnce hs h

/-! ### The ranges of `AX` on its way to the frame (R24, R177) -/

theorem axRanged_resetWith (p : Params) : (State.resetWith p).AxRanged := ⟨nofun, nofun⟩

theorem seqStep_keeps_axRanged {s t : State} (hs : s.AxRanged) (h : seqStep s = .next t) : t.AxRanged := by
  obtain ⟨es, hrow, -⟩ := seqStep_row h
  obtain ⟨hparams, -, -⟩ := seqStep_frame h
  obtain ⟨hscale, -⟩ := hs
  rw [State.AxRanged, variant_of_params_eq hparams, cfgMode_of_params_eq hparams]
  refine ⟨fun hn => ?scale, fun hn => ?emit⟩
  case scale =>
    obtain ⟨-, -, hv, b, -, hax⟩ := hrow.of_next_scale hn
    exact ⟨hv, _, _, _, hax, countRange_decodeAxis _ _, countRange_decodeAxis _ _, countRange_decodeAxis _ _⟩
  case emit =>
    obtain ⟨-, ⟨-, hv, b, -, hax⟩ | ⟨hst, x, y, z, hax, hax'⟩⟩ := hrow.of_next_emit hn
    · rw [hv]
      exact ⟨_, _, _, hax, countRange_decodeAxis _ _, countRange_decodeAxis _ _, countRange_decodeAxis _ _⟩
    · obtain ⟨hv, x', y', z', hcounts, hx, hy, hz⟩ := hscale hst
      obtain ⟨rfl, rfl, rfl⟩ := axOf_inj.mp (hax.symm.trans hcounts)
      rw [hv]
      exact ⟨_, _, _, hax', milliGRange_scaleAxis hx, milliGRange_scaleAxis hy, milliGRange_scaleAxis hz⟩

/-- Settles O59: `DECODE` leaves counts in their range, and `SCALE` makes milli-g values in theirs of such counts. -/
theorem axRangedKept : Obligations.AxRangedKept := fun _ _ hw hs h =>
  hw.step_keeps (fun _ p => axRanged_resetWith p) (fun _ _ _ h => h) seqStep_keeps_axRanged hs h

end Sys2Proof.Machine
end

section
/-! The Readiness Flag over the steps (43_readiness.md R183, R190; 70_reset_and_hazards.md R243), the records of
`INITSTAT` (R34), and the reset state, which has every property that the steps keep (R41). -/

namespace Sys2Proof.Machine

/-! ### What a step of `SEQ` makes of `RDY` and `EVT_PEND` (R151, R156) -/

/-- Of the operations only `RDYCLR` and `EVTACK` write `RDY` or `EVT_PEND`. -/
theorem exec_keeps_rdy {i : Instr} {s t : State} (hclr : i ≠ .rdyclr) (hack : i ≠ .evtack) (h : exec i s = .next t) :
    t.rdy = s.rdy ∧ t.evtPend = s.evtPend := by
  cases i
  case rdreg => obtain ⟨-, ⟨-, rfl⟩ | ⟨-, rfl⟩⟩ := execRdreg_eq_next h <;> exact ⟨rfl, rfl⟩
  case wrreg => obtain ⟨-, ⟨-, rfl⟩ | ⟨-, rfl⟩⟩ := execWrreg_eq_next h <;> exact ⟨rfl, rfl⟩
  case rdburst => obtain ⟨-, -, ⟨-, rfl⟩ | ⟨-, rfl⟩⟩ := execRdburst_eq_next h <;> exact ⟨rfl, rfl⟩
  case settle => obtain rfl := Host.Outcome.next.inj h; exact ⟨rfl, rfl⟩
  case waitrdy => obtain rfl := Host.Outcome.next.inj h; exact ⟨rfl, rfl⟩
  case decode => obtain ⟨_, -, rfl⟩ := execDecode_eq_next h; exact ⟨rfl, rfl⟩
  case scale => obtain ⟨_, -, rfl⟩ := execScale_eq_next h; exact ⟨rfl, rfl⟩
  case emit => obtain ⟨_, -, rfl⟩ := execEmit_eq_next h; exact ⟨rfl, rfl⟩
  case rdyclr => exact absurd rfl hclr
  case evtack => exact absurd rfl hack

/-- No record of `SEQ` writes `EVT_PEND`, and only that of `S_STATUS` writes `RDY`: with the bit read, in the Polled
strategy (R151, R183). -/
theorem complete_rdy {s t : State} (h : complete s = .next t) :
    t.evtPend = s.evtPend ∧
    (t.rdy = s.rdy ∨ ∃ nd, s.st = .status ∧ t.rdy = s.pollRdy nd ∧ (nd = true → t.st = .burst)) := by
  rcases hst : s.st with _ | _ | _ | _ | _ | _ | _ | _ | _ | _ | _ | _ <;> simp only [complete, hst] at h
  case cfg1Rd =>
    rcases afterConfigRead_eq_next h with ⟨_, -, -, -, rfl⟩ | ⟨-, -, rfl⟩ | ⟨-, -, rfl⟩ | ⟨-, -, rfl⟩ <;>
      exact ⟨rfl, .inl rfl⟩
  case cfg4Rd =>
    rcases afterConfigRead_eq_next h with ⟨_, -, -, -, rfl⟩ | ⟨-, -, rfl⟩ | ⟨-, -, rfl⟩ | ⟨-, -, rfl⟩ <;>
      exact ⟨rfl, .inl rfl⟩
  case idle =>
    split at h <;> obtain rfl := Host.Outcome.next.inj h <;> exact ⟨rfl, .inl rfl⟩
  case status =>
    rcases afterStatusRead_eq_next h with ⟨-, rfl⟩ | ⟨_, -, -, -, rfl⟩ | ⟨_, -, -, -, rfl⟩
    · exact ⟨rfl, .inl rfl⟩
    · exact ⟨rfl, .inr ⟨true, rfl, rfl, fun _ => rfl⟩⟩
    · exact ⟨rfl, .inr ⟨false, rfl, rfl, nofun⟩⟩
  case burst =>
    rcases afterBurst_eq_next h with ⟨-, rfl⟩ | ⟨-, rfl⟩ <;> exact ⟨rfl, .inl rfl⟩
  all_goals obtain rfl := Host.Outcome.next.inj h; exact ⟨rfl, .inl rfl⟩

/-- `SEQ` never writes `EVT_PEND`; it clears `RDY` in `S_DONE`, lets the bit read decide it in `S_STATUS` of the Polled
strategy, and else leaves it. -/
theorem seqStep_rdy {s t : State} (h : seqStep s = .next t) :
    t.evtPend = s.evtPend ∧
    ((s.st = .done ∧ t.rdy = false) ∨
      (s.st ≠ .done ∧ (t.rdy = s.rdy ∨
        ∃ nd, s.st = .status ∧ t.rdy = s.pollRdy nd ∧ (nd = true → t.st = .burst)))) := by
  by_cases hdone : s.st = .done
  case pos =>
    obtain rfl := Host.Outcome.next.inj ((doneState.2 s hdone).symm.trans h)
    exact ⟨rfl, .inl ⟨hdone, rfl⟩⟩
  case neg =>
    have hissue : s.issue ≠ .rdyclr ∧ s.issue ≠ .evtack := by
      cases hst : s.st <;> simp_all [State.issue]
    rw [seqStep_eq] at h
    obtain ⟨u, hu, ht⟩ := andThen_eq_next.mp h
    obtain ⟨hst, hparams, -⟩ := exec_frame hu
    obtain ⟨hrdy, hevt⟩ := exec_keeps_rdy hissue.1 hissue.2 hu
    have hpoll (nd : Bool) : u.pollRdy nd = s.pollRdy nd := by
      rw [State.pollRdy_eq_ite, State.pollRdy_eq_ite, strategy_of_params_eq hparams, hrdy]
    obtain ⟨hevt', hrdy'⟩ := complete_rdy ht
    rw [hrdy, hst] at hrdy'
    simp only [hpoll] at hrdy'
    exact ⟨hevt'.trans hevt, .inr ⟨hdone, hrdy'⟩⟩

/-! ### `RDY` in the Polled strategy (R183) -/

theorem polledRdyLocal_resetWith (p : Params) : (State.resetWith p).PolledRdyLocal := nofun

/-- From the poll that sets it on, `RDY` stays until `RDYCLR`. -/
theorem seqStep_keeps_polledRdyLocal {s t : State} (hs : s.PolledRdyLocal) (h : seqStep s = .next t) :
    t.PolledRdyLocal := by
  obtain ⟨es, hrow, -⟩ := seqStep_row h
  obtain ⟨hparams, -, -⟩ := seqStep_frame h
  obtain ⟨-, hrdy⟩ := seqStep_rdy h
  intro hpolled htrue
  rw [strategy_of_params_eq hparams] at hpolled
  rcases hrdy with ⟨-, hclear⟩ | ⟨hne, hsame | ⟨nd, -, hpoll, hburst⟩⟩
  · cases htrue.symm.trans hclear
  · exact hrow.afterStatus (hs hpolled (hsame ▸ htrue)) hne
  · have hnd : nd = true := by rwa [hpoll, State.pollRdy_eq_ite, if_pos hpolled] at htrue
    rw [hburst hnd]; rfl

/-- Settles O58: no operation from outside sets `RDY` in the Polled strategy, where the handler has no turn. -/
theorem polledRdyKept : Obligations.PolledRdyKept := by
  intro s t hs h
  rcases step_eq_next h with ⟨w, u, -, hu, rfl⟩ | ⟨hturn, -⟩ | ⟨-, hevt⟩ | ⟨-, rfl⟩ | ⟨p, -, rfl⟩
  case inl =>
    obtain ⟨i, hi⟩ := runWord_eq_next hu
    obtain ⟨hst, hparams, -, -, -, hrdy, -⟩ := exec_frame hi
    intro hpolled htrue
    have hpolled' : s.strategy = .polled := (strategy_of_params_eq hparams).symm.trans hpolled
    exact (congrArg SeqState.afterStatus hst).trans (hs hpolled' (hrdy hpolled' htrue))
  case inr.inl => exact seqStep_keeps_polledRdyLocal (s := s.dropMove) hs (step_of_sequencer hturn ▸ h)
  case inr.inr.inl =>
    obtain ⟨hen, rfl⟩ := execEvtack_eq_next hevt
    obtain ⟨hdriven, -⟩ := handlerEnabled_iff.mp hen
    intro hpolled
    cases hdriven.symm.trans hpolled
  case inr.inr.inr.inl => exact hs
  case inr.inr.inr.inr => exact polledRdyLocal_resetWith p

/-! ### An event inside the sampling step (R190, R243) -/

/-- In the EventDriven strategy `SEQ` leaves `RDY` alone until `S_DONE`. -/
theorem seqStep_rdy_of_eventDriven {s t : State} (hs : s.strategy = .eventDriven) (hne : s.st ≠ .done)
    (h : seqStep s = .next t) : t.rdy = s.rdy := by
  obtain ⟨-, ⟨hdone, -⟩ | ⟨-, hsame | ⟨nd, -, hpoll, -⟩⟩⟩ := seqStep_rdy h
  · exact absurd hdone hne
  · exact hsame
  · rw [hpoll, State.pollRdy_eq_ite, hs]; rfl

/-- Settles O32: by whose turn it is; the sequencer's steps are those of the table and of `RDY`. -/
theorem eventInWindowIsLost : Obligations.EventInWindowIsLost := by
  refine ⟨fun s t _ hs hrdy hin hreset h => ⟨?strategy, fun hturn => ?handler, fun hturn => ?trigger,
    fun hturn hne => ?sequencer, fun hturn hdone => ?done⟩, fun s hs hrdy hst => seqStep_of_idle_pending hst hs hrdy⟩
  case strategy =>
    obtain ⟨hparams, -⟩ := step_frame h hreset
    exact (strategy_of_params_eq hparams).trans hs
  case handler =>
    obtain ⟨-, rfl⟩ := execEvtack_eq_next (step_of_handler hturn ▸ h)
    exact ⟨rfl, rfl, rfl⟩
  case trigger =>
    obtain rfl := Host.Outcome.next.inj ((step_of_trigger hturn).symm.trans h)
    exact ⟨rfl, hrdy⟩
  case sequencer =>
    have hseq : seqStep s.dropMove = .next t := step_of_sequencer hturn ▸ h
    obtain ⟨es, hrow, -⟩ := seqStep_row hseq
    obtain ⟨hevt, -⟩ := seqStep_rdy hseq
    exact ⟨hrow.inSample hin hne, (seqStep_rdy_of_eventDriven (s := s.dropMove) hs hne hseq).trans hrdy, hevt⟩
  case done =>
    have hseq : seqStep s.dropMove = .next t := step_of_sequencer hturn ▸ h
    obtain rfl := Host.Outcome.next.inj ((doneState.2 s.dropMove hdone).symm.trans hseq)
    exact ⟨rfl, rfl, rfl⟩

/-! ### The records of the two reads (R34, R146, R148) -/

theorem ofStatus_ne_notIssued (status : Status) : InitCode.ofStatus status ≠ .notIssued := by
  cases status <;> nofun

theorem initRecorded_resetWith (p : Params) : (State.resetWith p).InitRecorded :=
  ⟨fun h => absurd rfl h, by rintro (h | h) <;> cases h⟩

/-- Each of the two reads is recorded in the step that leaves its state. -/
theorem complete_keeps_initRecorded {s t : State} (hs : s.InitRecorded) (h : complete s = .next t) :
    t.InitRecorded := by
  obtain ⟨h1, h4⟩ := hs
  rcases hst : s.st with _ | _ | _ | _ | _ | _ | _ | _ | _ | _ | _ | _ <;> simp only [complete, hst] at h
  case cfg1Rd =>
    have hrec := ofStatus_ne_notIssued s.ts
    rcases afterConfigRead_eq_next h with ⟨_, -, -, -, rfl⟩ | ⟨-, -, rfl⟩ | ⟨-, -, rfl⟩ | ⟨-, -, rfl⟩ <;>
      simp [State.InitRecorded, SeqState.inInit, hrec]
  case cfg4Rd =>
    have hrec := ofStatus_ne_notIssued s.ts
    rcases afterConfigRead_eq_next h with ⟨_, -, -, -, rfl⟩ | ⟨-, -, rfl⟩ | ⟨-, -, rfl⟩ | ⟨-, -, rfl⟩ <;>
      simp_all [State.InitRecorded]
  case status =>
    rcases afterStatusRead_eq_next h with ⟨-, rfl⟩ | ⟨_, -, -, -, rfl⟩ | ⟨_, -, -, -, rfl⟩ <;>
      simp_all [State.InitRecorded, SeqState.inInit]
  case burst => rcases afterBurst_eq_next h with ⟨-, rfl⟩ | ⟨-, rfl⟩ <;> simp_all [State.InitRecorded, SeqState.inInit]
  case idle => split at h <;> obtain rfl := Host.Outcome.next.inj h <;> simp_all [State.InitRecorded, SeqState.inInit]
  all_goals obtain rfl := Host.Outcome.next.inj h; simp_all [State.InitRecorded, SeqState.inInit]

/-- No operation writes `ST` or `INITSTAT`. -/
theorem exec_keeps_initRecorded {i : Instr} {s t : State} (hs : s.InitRecorded) (h : exec i s = .next t) :
    t.InitRecorded := by
  obtain ⟨hst, -, hinit, -⟩ := exec_frame h
  rwa [State.InitRecorded, hst, hinit]

/-- Settles O60: operations leave the records alone, and `SEQ` leaves no read's state without its record. -/
theorem initRecordedKept : Obligations.InitRecordedKept := fun _ _ hs h =>
  step_keeps_of_exec (fun _ p => initRecorded_resetWith p) (fun _ _ _ _ _ _ h => h) exec_keeps_initRecorded
    complete_keeps_initRecorded hs h

/-! ### The reset state (R41) -/

/-- Settles O51: nothing is recorded, nothing is written, and `ST` is `S_SETTLE`. -/
theorem invariantsAtReset : Obligations.InvariantsAtReset := fun p =>
  ⟨wired_resetWith p, ready_resetWith p, framesShaped_resetWith p, framesFromBursts_resetWith p,
    sampleInFlight_resetWith p, burstsAfterStatus_resetWith p, requestsWired_resetWith p, writesOnce_resetWith p,
    polledRdyLocal_resetWith p, axRanged_resetWith p, initRecorded_resetWith p⟩

end Sys2Proof.Machine
end

section
/-! The paths through a control register's two states (41_controller.md R134, R158) and through a sampling step (R161),
with the history each leaves. -/

namespace Sys2Proof.Machine

/-! ### A control register is written only where it differs (R134, R158) -/

section configure
variable {s : State} {reg : RegAddr} {target : Byte} {record : InitCode → InitStat} {write skip : SeqState}
  {p : SeqState → Bool}

/-- `t` is where the pair of states ends: at `skip`, with the read and the write that each outcome of the read
asks for. -/
structure State.Configured (s t : State) (reg : RegAddr) (target : Byte) (skip : SeqState) : Prop where
  next : t.st = skip
  equal : s.answerNow.status = .ok → s.answerNow.value = target →
    t.history = s.history ++ [Event.read1 Config.devAddr reg .ok (some target)]
  differs : s.answerNow.status = .ok → s.answerNow.value ≠ target →
    ∃ st : Status, t.history = s.history ++ [Event.read1 Config.devAddr reg .ok (some s.answerNow.value),
      Event.write1 Config.devAddr reg target st]
  failedSkip : s.answerNow.status = .fail → s.onReadFail = .skip →
    t.history = s.history ++ [Event.read1 Config.devAddr reg .fail none]
  failedWrite : s.answerNow.status = .fail → s.onReadFail = .write →
    ∃ st : Status, t.history = s.history ++ [Event.read1 Config.devAddr reg .fail none,
      Event.write1 Config.devAddr reg target st]

/-- The path ends at once where the read leads past the write. -/
theorem seqWhile_of_skip {u : State} (hin : p s.st = true) (hstep : seqStep s = .next u) (hout : p u.st = false) :
    seqWhile p 2 s = .next u := by
  rw [seqWhile_of_seqStep hin hstep, seqWhile_of_outside hout]

/-- The path makes the one write where the read leads to it. -/
theorem seqWhile_of_write {u : State} {e : Event} (hin : p s.st = true) (hstep : seqStep s = .next u)
    (hinw : p u.st = true) (hu : u.history = s.history ++ [e]) (hsettled : u.settled = true)
    (hw : u.ConfigWrite reg target record skip) :
    ∃ t st, seqWhile p 2 s = .next t ∧ t.st = skip ∧
      t.history = s.history ++ [e, .write1 Config.devAddr reg target st] := by
  obtain ⟨t, st, hstep', ht, hadds⟩ := hw.total hsettled
  refine ⟨t, st, ?_, ht, by rw [hadds.history, hu, List.append_assoc]; rfl⟩
  rw [seqWhile_of_seqStep hin hstep, seqWhile_of_seqStep hinw hstep']; rfl

/-- The read's outcome decides whether there is a write (R146 to R149). -/
theorem configured_of_configRead (hs : s.settled = true) (hin : p s.st = true) (hinw : p write = true)
    (hout : p skip = false) (hread : s.ConfigRead reg target record write skip)
    (hwrite : ∀ u : State, u.st = write → u.settled = true → u.params = s.params →
      ∃ record', u.ConfigWrite reg target record' skip) :
    ∃ t, seqWhile p 2 s = .next t ∧ s.Configured t reg target skip := by
  cases ha : s.answerNow.status
  case ok =>
    by_cases hv : s.answerNow.value = target
    case pos =>
      exact ⟨_, seqWhile_of_skip hin (hread.equal ha hv) hout,
        { next := rfl
          equal := fun _ _ => by rw [← hv]; rfl
          differs := fun _ hne => absurd hv hne
          failedSkip := fun hf => nomatch ha.symm.trans hf
          failedWrite := fun hf => nomatch ha.symm.trans hf }⟩
    case neg =>
      obtain ⟨record', hw⟩ := hwrite { s.afterOkRead reg with
        initStat := record .ok, raised := s.raised ++ [.configurationMismatch], st := write } rfl hs rfl
      obtain ⟨t, st, hrun, ht, hh⟩ := seqWhile_of_write hin (hread.differs ha hv) hinw rfl hs hw
      exact ⟨t, hrun,
        { next := ht
          equal := fun _ heq => absurd heq hv
          differs := fun _ _ => ⟨st, hh⟩
          failedSkip := fun hf => nomatch ha.symm.trans hf
          failedWrite := fun hf => nomatch ha.symm.trans hf }⟩
  case fail =>
    cases hf : s.onReadFail
    case skip =>
      exact ⟨_, seqWhile_of_skip hin (hread.failedSkip ha hf) hout,
        { next := rfl
          equal := fun hok => nomatch ha.symm.trans hok
          differs := fun hok => nomatch ha.symm.trans hok
          failedSkip := fun _ _ => rfl
          failedWrite := fun _ hw => nomatch hf.symm.trans hw }⟩
    case write =>
      obtain ⟨record', hw⟩ := hwrite { s.afterFailedRead reg with initStat := record .fail, st := write } rfl hs rfl
      obtain ⟨t, st, hrun, ht, hh⟩ := seqWhile_of_write hin (hread.failedWrite ha hf) hinw rfl hs hw
      exact ⟨t, hrun,
        { next := ht
          equal := fun hok => nomatch ha.symm.trans hok
          differs := fun hok => nomatch ha.symm.trans hok
          failedSkip := fun _ hskip => nomatch hf.symm.trans hskip
          failedWrite := fun _ _ => ⟨st, hh⟩ }⟩

end configure

/-- Settles O43: both registers are configured by the one path. -/
theorem configureIdempotent : Obligations.ConfigureIdempotent := by
  refine fun s hs => ⟨fun hst => ?ctrl1, fun hst => ?ctrl4⟩
  case ctrl1 =>
    obtain ⟨t, hrun, hnext, equal, differs, failedSkip, failedWrite⟩ :=
      configured_of_configRead (p := Pseudo.cfgreg1.covers) hs (by rw [hst]; rfl) rfl rfl (configRead_ctrl1 hst hs)
        (fun u hu hus hp => ⟨_, target1_of_params_eq hp ▸ configWrite_ctrl1 hu hus⟩)
    exact ⟨t, hrun, hnext, equal, differs, failedSkip, failedWrite⟩
  case ctrl4 =>
    obtain ⟨t, hrun, hnext, equal, differs, failedSkip, failedWrite⟩ :=
      configured_of_configRead (p := Pseudo.cfgreg4.covers) hs (by rw [hst]; rfl) rfl rfl (configRead_ctrl4 hst hs)
        (fun u hu hus hp => ⟨_, target4_of_params_eq hp ▸ configWrite_ctrl4 hu hus⟩)
    exact ⟨t, hrun, hnext, equal, differs, failedSkip, failedWrite⟩

/-! ### The sampling step (R161) -/

theorem State.variant_cases (s : State) : s.variant = .reference ∨ s.variant = .historical := by
  cases s.variant <;> simp

theorem payloadAxis_of_reference {variant : Variant} (hv : variant = .reference) (mode : Mode) (lo hi : Byte) :
    payloadAxis variant mode lo hi = scaleAxis mode (decodeAxis mode (combine lo hi)) := by rw [hv]; rfl

theorem payloadAxis_of_historical {variant : Variant} (hv : variant = .historical) (mode : Mode) (lo hi : Byte) :
    payloadAxis variant mode lo hi = decodeAxis mode (combine lo hi) := by rw [hv]; rfl

/-- `SAMPLE` with this many steps left runs from `s` to `S_IDLE` with `RDY = 0` and adds `es` to the history. -/
def State.Samples (s : State) (fuel : Nat) (es : List Event) : Prop :=
  ∃ t, seqWhile Pseudo.sample.covers fuel s = .next t ∧ t.st = .idle ∧ t.rdy = false ∧ t.history = s.history ++ es

/-- One step of the path before the rest of it. -/
theorem State.Samples.cons {s u : State} {fuel : Nat} {es es' : List Event} (hin : Pseudo.sample.covers s.st = true)
    (hstep : seqStep s = .next u) (hu : u.history = s.history ++ es) (h : u.Samples fuel es') :
    s.Samples (fuel + 1) (es ++ es') := by
  obtain ⟨t, hrun, ht, hrdy, hh⟩ := h
  exact ⟨t, (seqWhile_of_seqStep hin hstep fuel).trans hrun, ht, hrdy, by rw [hh, hu, List.append_assoc]⟩

section sample
variable {s : State} (fuel : Nat)

/-- `RDYCLR`, and the path is left. -/
theorem samples_of_done (hst : s.st = .done) : s.Samples (fuel + 1) [] := by
  have hrest : { s with rdy := false, st := .idle }.Samples fuel [] :=
    ⟨_, seqWhile_of_outside rfl fuel, rfl, rfl, (List.append_nil _).symm⟩
  exact hrest.cons (by rw [hst]; rfl) (doneState.2 s hst) (List.append_nil _).symm

theorem samples_of_emit {x y z : Half} (hst : s.st = .emit) (hax : s.ax = axOf x y z) :
    s.Samples (fuel + 2) [.frame (frameOf s.variant x y z).toList] :=
  (samples_of_done fuel rfl).cons (by rw [hst]; rfl) (seqStep_of_payload hst hax) rfl

theorem samples_of_scale {x y z : Half} (hst : s.st = .scale) (hax : s.ax = axOf x y z) :
    s.Samples (fuel + 3) [.frame
      (frameOf s.variant (scaleAxis s.cfgMode x) (scaleAxis s.cfgMode y) (scaleAxis s.cfgMode z)).toList] := by
  refine State.Samples.cons (es := []) (by rw [hst]; rfl) (seqStep_of_counts hst hax) (List.append_nil _).symm ?_
  exact samples_of_emit fuel rfl rfl

/-- With six bytes in `RAW` the step emits their frame, through `SCALE` in the REFERENCE variant alone (R143). -/
theorem samples_of_decode {b : Vector Byte 6} (hst : s.st = .decode) (hraw : s.raw = b.map Datum.val) :
    s.Samples (fuel + 4) [.frame (frameOfSample s.variant s.cfgMode b)] := by
  refine State.Samples.cons (es := []) (by rw [hst]; rfl) (seqStep_of_raw hst hraw) (List.append_nil _).symm ?_
  rcases s.variant_cases with hv | hv
  case inl =>
    rw [frameOfSample, payloadAxis_of_reference hv, payloadAxis_of_reference hv, payloadAxis_of_reference hv]
    exact samples_of_scale fuel (by simp [hv, afterDecode]) rfl
  case inr =>
    rw [frameOfSample, payloadAxis_of_historical hv, payloadAxis_of_historical hv, payloadAxis_of_historical hv]
    exact samples_of_emit (fuel + 1) (by simp [hv, afterDecode]) rfl

theorem samples_of_failed_burst (hst : s.st = .burst) (hs : s.settled = true)
    (ha : burstStatus s.answerNow Config.burstLen = .fail) :
    s.Samples (fuel + 2) [.readN Config.devAddr (burstAddr Config.regOutBase) Config.burstLen s.answerNow.status
      (Answer.burstBytes s.answerNow Config.burstLen)] :=
  (samples_of_done fuel rfl).cons (by rw [hst]; rfl) (seqStep_of_failed_burst hst hs ha) rfl

theorem samples_of_complete_burst {b : Vector Byte 6} (hst : s.st = .burst) (hs : s.settled = true)
    (ha : s.answerNow.status = .ok) (hb : Answer.burstBytes s.answerNow Config.burstLen = b.toList) :
    s.Samples (fuel + 5) [sampleBurst b, .frame (frameOfSample s.variant s.cfgMode b)] :=
  (samples_of_decode fuel rfl rfl).cons (es := [sampleBurst b]) (by rw [hst]; rfl)
    (seqStep_of_complete_burst hst hs ha hb) rfl

end sample

/-- A failed or short answer is no complete burst (R113). -/
theorem burstStatus_of_short {a : Answer} (h : a.status = .fail ∨ a.bytes.length < 6) :
    burstStatus a Config.burstLen = .fail := by
  rw [burstStatus_eq_fail]
  rintro ⟨hok, hlen⟩
  rcases h with hfail | hshort
  · cases hok.symm.trans hfail
  · have hmin : min 6 a.bytes.length = 6 := List.length_take.symm.trans hlen
    omega

/-- Settles O44: the status read ends the step or leads to the burst, whose answer is the next one; a burst that is not
complete ends it too, and a complete one leads to its frame. -/
theorem sampleShapes : Obligations.SampleShapes := by
  intro s hst hs
  obtain ⟨failed, set, clear⟩ := statusState.2 s hst hs
  have hin : Pseudo.sample.covers s.st = true := by rw [hst]; rfl
  cases ha : s.answerNow.status
  case fail =>
    obtain ⟨t, hrun, ht, hrdy, hh⟩ := (samples_of_done 4 rfl).cons hin (failed ha) rfl
    exact ⟨t, hrun, ht, hrdy, fun _ => hh, nofun, nofun⟩
  case ok =>
    cases hbit : s.answerNow.value.getLsbD 3
    case false =>
      obtain ⟨t, hrun, ht, hrdy, hh⟩ := (samples_of_done 4 rfl).cons hin (clear ha hbit) rfl
      exact ⟨t, hrun, ht, hrdy, nofun, fun _ _ => hh, nofun⟩
    case true =>
      cases hstatus : burstStatus s.dropAnswer.answerNow Config.burstLen
      case fail =>
        obtain ⟨t, hrun, ht, hrdy, hh⟩ :=
          State.Samples.cons hin (set ha hbit) rfl (samples_of_failed_burst 3 rfl hs hstatus)
        refine ⟨t, hrun, ht, hrdy, nofun, nofun, fun _ _ => ⟨fun _ => hh, fun b hok hb => ?_⟩⟩
        cases hstatus.symm.trans (complete_burst_iff.mpr ⟨hok, b, hb⟩)
      case ok =>
        obtain ⟨hok, b, hb⟩ := complete_burst_iff.mp hstatus
        obtain ⟨t, hrun, ht, hrdy, hh⟩ :=
          State.Samples.cons hin (set ha hbit) rfl (samples_of_complete_burst 0 rfl hs hok hb)
        refine ⟨t, hrun, ht, hrdy, nofun, nofun, fun _ _ => ⟨fun hshort => ?_, fun b' _ hb' => ?_⟩⟩
        · cases hstatus.symm.trans (burstStatus_of_short hshort)
        · obtain rfl : b = b' := Vector.toList_inj.mp (hb.symm.trans hb')
          exact hh

end Sys2Proof.Machine
end
